-- ==== Sys2Proof/Word.lean ====
section
/-! DEFINITION. The widths the spec uses by name: 32-bit register and micro-words (30_encoding R70), bytes of the
image and of the bus (20_memory R50), and the level of one line or one-bit register (10_state R33). -/

namespace Sys2Proof

/-- A 32-bit host register word, command word or micro-word (30_encoding R70). -/
abbrev Word := BitVec 32

/-- One byte of the image buffer or of the serial bus (20_memory R50). -/
abbrev Byte := BitVec 8

/-- The level of a line: `true` is level 1 (high), `false` is level 0 (low) (10_state R33). -/
abbrev Level := Bool

end Sys2Proof
end

