-- ==== Sys2Proof/Config.lean ====
section
/-! DEFINITION. What an instance of the block fixes when it is built (00_scope R7, 70_reset_and_hazards R233), and the
values the spec leaves to the environment (00_scope R10, 93_implementation_defined U5), which are constants without a
body: nothing can be proved of them, so what is proved holds for every choice. -/

namespace Sys2Proof

/-- The build-time parameters of 00_scope R7, before their constraints are checked. The delays are 24 bits wide
because they are the operands of two DELAY words (30_encoding R76); log entry 7. -/
structure RawParams where
  /-- P_CHUNK, framer chunk size in bytes. -/
  chunk : BitVec 16
  /-- P_XFER_MAX, the largest exchange the Transport accepts, in bytes. -/
  xferMax : Nat
  /-- P_T_RESET_US, reset hold time in microseconds. -/
  tResetUs : BitVec 24
  /-- P_T_REINIT_US, re-initialisation time in microseconds. -/
  tReinitUs : BitVec 24
  /-- P_FLUSH_BYTES, flush padding bytes. -/
  flushBytes : BitVec 16
  /-- P_FLUSH_FILL, flush byte value. -/
  flushFill : Byte
  /-- P_POLL_INTERVAL_US, wait between polls in microseconds. -/
  pollIntervalUs : Nat
  /-- P_DONE_ACTIVE, the DONE level that means completed. -/
  doneActive : Level
  /-- P_MSB_FIRST, bit order of a byte on the wire. -/
  msbFirst : Bool
  /-- P_BUS_HZ, bus clock rate. -/
  busHz : Nat
  /-- P_AUXCLK_HZ, auxiliary clock frequency. -/
  auxClkHz : Nat
deriving DecidableEq, Repr

/-- The constraints that 00_scope R7 puts in numbers. An instance that fails them is outside the spec
(70_reset_and_hazards R233). For P_BUS_HZ ("conservative") and P_AUXCLK_HZ ("fixed required frequency") the column gives
no number, and the model puts no condition on either, so that every value, 0 among them, is legal here: DESIGN CHOICE,
log entry 24. -/
def RawParams.legal (p : RawParams) : Bool :=
  decide (1 ≤ p.chunk.toNat ∧ p.chunk.toNat ≤ p.xferMax ∧
    200 ≤ p.tResetUs.toNat ∧ 1200 ≤ p.tReinitUs.toNat ∧
    2 ≤ p.flushBytes.toNat ∧ p.flushBytes.toNat ≤ p.xferMax ∧
    1 ≤ p.pollIntervalUs)

/-- The parameters of an instance that meets the constraints the spec puts in numbers. There is no value for any other instance: a model
must refuse one (70_reset_and_hazards R233). -/
structure Params extends RawParams where
  /-- The instance meets what 00_scope R7 puts in numbers. -/
  legal : toRawParams.legal = true
deriving DecidableEq, Repr

/-- Building an instance: refused (`none`) outside the constraints (70_reset_and_hazards R233). -/
def Params.build? (p : RawParams) : Option Params :=
  if h : p.legal = true then some ⟨p, h⟩ else none

namespace Config

/-- MAX_LEN, the largest accepted image length (00_scope R7). -/
def maxLen : Nat := 65535

/-- P_PRIME_BYTES, priming dummy bytes (00_scope R7). -/
def primeBytes : BitVec 16 := 1#16

/-- P_PRIME_FILL, priming byte value (00_scope R7). -/
def primeFill : Byte := 0x00#8

/-- IMG_BYTES, image buffer capacity (00_scope R7). -/
def imgBytes : Nat := 65536

/-- POLL_BUDGET's reset value (10_state R30, R45). -/
def pollBudgetReset : BitVec 16 := 1000#16

/-- P_CHUNK is OPEN (92_eei_decisions D14): one less than the reset instance's chunk size. -/
opaque openChunkLessOne : Fin 65535

/-- P_XFER_MAX is OPEN (92_eei_decisions D40): what the Transport accepts beyond the least the constraint asks. -/
opaque openXferSlack : Nat

/-- P_BUS_HZ is OPEN (92_eei_decisions D33), under no condition (log entry 24). -/
opaque openBusHz : Nat

/-- P_AUXCLK_HZ is OPEN (92_eei_decisions D33), under no condition (log entry 24). -/
opaque openAuxClkHz : Nat

/-- The parameters of the instance that `State.reset` describes: 00_scope R7's defaults, and a free constant for
each OPEN one (log entry 7; P_DONE_ACTIVE and P_MSB_FIRST are PRESUMED, log entry 17). -/
def rawParams : RawParams where
  chunk := BitVec.ofNat 16 (openChunkLessOne.val + 1)
  xferMax := max (openChunkLessOne.val + 1) 2 + openXferSlack
  tResetUs := 200#24
  tReinitUs := 1200#24
  flushBytes := 2#16
  flushFill := 0x00#8
  pollIntervalUs := 1000
  doneActive := true
  msbFirst := true
  busHz := openBusHz
  auxClkHz := openAuxClkHz

theorem rawParams_legal : rawParams.legal = true := by
  have h := openChunkLessOne.isLt
  simp only [RawParams.legal, rawParams, decide_eq_true_eq, BitVec.toNat_ofNat]
  omega

/-- The instance that `State.reset` describes. -/
def params : Params where
  toRawParams := rawParams
  legal := rawParams_legal

/-- The Transport's answer to a bus acquisition that `State.env` does not list: the n-th draw is free
(00_scope R10). -/
opaque busOkDraw : Nat → Bool

/-- The Transport's answer to an exchange that `State.env` does not list: the n-th draw is free (00_scope R10). -/
opaque xferOkDraw : Nat → Bool

/-- The DONE level at a sample that `State.env` does not list: the n-th draw is free (00_scope R10). -/
opaque doneLevelDraw : Nat → Level

/-- What an image byte reads as when the host has not written it since the block's last reset: free for each reset
and each index (10_state R45, 93_implementation_defined U5). -/
opaque unwrittenByte : Nat → Nat → Byte

end Config
end Sys2Proof
end

