-- ==== Sys2Proof/Syntax.lean ====
section
/-! DEFINITION. The instructions of spec/opcode_table.json, one constructor a row, with the names their operands
range over: states of the protocol machine, output pins and session outcomes. -/

namespace Sys2Proof

/-- The states of the protocol machine, in the order of their codes 0 to 7 (10_state R23). -/
inductive Fsm where
  | idle
  | resetting
  | priming
  | streaming
  | flushing
  | awaitingCompletion
  | done
  | failed
deriving DecidableEq, Repr

/-- The two output pins, both active low (10_state R33). -/
inductive OutPin where
  | csN
  | rstN
deriving DecidableEq, Repr

/-- The five outcomes of a session, in the order of their codes 0 to 4 (60_exceptions R200). -/
inductive SessionOutcome where
  | done
  | emptyInput
  | oversizedInput
  | transportFailure
  | completionTimeout
deriving DecidableEq, Repr

/-- The eight operations: two host commands (30_encoding R72) and six micro-operations (R75).
A micro-operation carries the PHASE of its micro-word (R77) and its decoded operand (R76). -/
inductive Instr where
  /-- INIT, one-time bring-up (40_host_commands R101). -/
  | init
  /-- CONFIGURE, start a session or reject its input (40_host_commands R106). -/
  | configure
  /-- SETPIN, drive an output pin to a level (41_sequencer R125). -/
  | setpin (phase : Fsm) (pin : OutPin) (level : Level)
  /-- DELAY, hold for at least `t` microseconds (41_sequencer R127). -/
  | delay (phase : Fsm) (t : BitVec 24)
  /-- XFERC, send `count` copies of `fill` (42_framer R141). -/
  | xferc (phase : Fsm) (fill : Byte) (count : BitVec 16)
  /-- XFERI, send the next chunk of the image (42_framer R143). -/
  | xferi (phase : Fsm)
  /-- POLL, sample DONE once (43_poller R160). -/
  | poll (phase : Fsm)
  /-- END, finish the session with an outcome (43_poller R166). -/
  | endOp (phase : Fsm) (code : SessionOutcome)
deriving DecidableEq, Repr

end Sys2Proof
end

