-- ==== Sys2Proof/Decode.lean ====
section
/-! DEFINITION. The two 32-bit formats (30_encoding R70 to R80): decoding, total on every word and rejecting by name,
and then the encoder. -/

namespace Sys2Proof

/-- Why a word is no instruction (30_encoding R73, R78). -/
inductive DecodeError where
  /-- A command word other than 1 and 2 (R73). -/
  | reservedCommand
  /-- UOP is 0 or 7 to 15 (R78). -/
  | reservedUop
  /-- Bit 24 is set (R78). -/
  | bit24Set
  /-- A bit of OPERAND that R76 marks zero is set (R78). -/
  | operandBitsSet
  /-- XFERC with COUNT = 0 (R78). -/
  | zeroCount
  /-- END with CODE 5 to 7 (R78). -/
  | reservedOutcome
deriving DecidableEq, Repr

/-! ### Field codes -/

/-- The 3-bit code of a state (10_state R23). -/
def Fsm.code : Fsm → BitVec 3
  | .idle => 0#3
  | .resetting => 1#3
  | .priming => 2#3
  | .streaming => 3#3
  | .flushing => 4#3
  | .awaitingCompletion => 5#3
  | .done => 6#3
  | .failed => 7#3

/-- The state a PHASE field names; all eight codes are used (10_state R23, 30_encoding R77). -/
def Fsm.ofCode (c : BitVec 3) : Fsm :=
  match c.toNat with
  | 0 => .idle
  | 1 => .resetting
  | 2 => .priming
  | 3 => .streaming
  | 4 => .flushing
  | 5 => .awaitingCompletion
  | 6 => .done
  | _ => .failed

/-- SETPIN's PIN bit: 0 is CS_N and 1 is RST_N (30_encoding R76). -/
def OutPin.code : OutPin → Bool
  | .csN => false
  | .rstN => true

/-- The pin a PIN bit names (30_encoding R76). -/
def OutPin.ofCode (b : Bool) : OutPin :=
  if b then .rstN else .csN

/-- The 3-bit code of an outcome (60_exceptions R200). -/
def SessionOutcome.code : SessionOutcome → BitVec 3
  | .done => 0#3
  | .emptyInput => 1#3
  | .oversizedInput => 2#3
  | .transportFailure => 3#3
  | .completionTimeout => 4#3

/-- The outcome a CODE field names; codes 5 to 7 name none (30_encoding R78, 60_exceptions R200). -/
def SessionOutcome.ofCode? (c : BitVec 3) : Option SessionOutcome :=
  match c.toNat with
  | 0 => some .done
  | 1 => some .emptyInput
  | 2 => some .oversizedInput
  | 3 => some .transportFailure
  | 4 => some .completionTimeout
  | _ => none

/-! ### Fields of a micro-word (30_encoding R74) -/

/-- UOP, bits 31..28. -/
def uopField (w : Word) : BitVec 4 := w.extractLsb' 28 4

/-- PHASE, bits 27..25. -/
def phaseField (w : Word) : BitVec 3 := w.extractLsb' 25 3

/-- OPERAND, bits 23..0. -/
def operandField (w : Word) : BitVec 24 := w.extractLsb' 0 24

/-! ### Decoding (30_encoding R80) -/

/-- SETPIN's operand: bits 23..5 and 3..1 zero, PIN in bit 4, LEVEL in bit 0 (30_encoding R76). -/
def decodeSetpin (phase : Fsm) (operand : BitVec 24) : Except DecodeError Instr :=
  if operand.extractLsb' 5 19 = 0 ∧ operand.extractLsb' 1 3 = 0 then
    .ok (.setpin phase (OutPin.ofCode operand[4]) operand[0])
  else .error .operandBitsSet

/-- XFERC's operand: FILL in bits 23..16, COUNT in bits 15..0, not 0 (30_encoding R76, R78). -/
def decodeXferc (phase : Fsm) (operand : BitVec 24) : Except DecodeError Instr :=
  if operand.extractLsb' 0 16 = 0 then .error .zeroCount
  else .ok (.xferc phase (operand.extractLsb' 16 8) (operand.extractLsb' 0 16))

/-- XFERI and POLL: the whole operand is zero (30_encoding R76). -/
def decodeNoOperand (i : Instr) (operand : BitVec 24) : Except DecodeError Instr :=
  if operand = 0 then .ok i else .error .operandBitsSet

/-- END's operand: bits 23..3 zero, CODE in bits 2..0, one of 0 to 4 (30_encoding R76, R78). -/
def decodeEnd (phase : Fsm) (operand : BitVec 24) : Except DecodeError Instr :=
  if operand.extractLsb' 3 21 = 0 then
    match SessionOutcome.ofCode? (operand.extractLsb' 0 3) with
    | some o => .ok (.endOp phase o)
    | none => .error .reservedOutcome
  else .error .operandBitsSet

/-- The decoding procedure of 30_encoding R80 for a micro-word. -/
def decodeMicro (w : Word) : Except DecodeError Instr :=
  if w[24] then .error .bit24Set
  else
    match (uopField w).toNat with
    | 1 => decodeSetpin (Fsm.ofCode (phaseField w)) (operandField w)
    | 2 => .ok (.delay (Fsm.ofCode (phaseField w)) (operandField w))
    | 3 => decodeXferc (Fsm.ofCode (phaseField w)) (operandField w)
    | 4 => decodeNoOperand (.xferi (Fsm.ofCode (phaseField w))) (operandField w)
    | 5 => decodeNoOperand (.poll (Fsm.ofCode (phaseField w))) (operandField w)
    | 6 => decodeEnd (Fsm.ofCode (phaseField w)) (operandField w)
    | _ => .error .reservedUop

/-- The decoding procedure of 30_encoding R80 for a command word: every value but two is reserved (R72, R73). -/
def decodeCommand (c : Word) : Except DecodeError Instr :=
  if c = 0x00000001#32 then .ok .init
  else if c = 0x00000002#32 then .ok .configure
  else .error .reservedCommand

/-- A word of either format. No word is legal in both: a command word has UOP 0, which R75 reserves (log entry 20). -/
def decodeWord (w : Word) : Except DecodeError Instr :=
  match decodeCommand w with
  | .ok i => .ok i
  | .error _ => decodeMicro w

/-- The 32-bit word of an opcode-table row's bits; both formats are one whole word (30_encoding R70). -/
def tableWord (nbits w : Nat) : Word := BitVec.ofNat 32 (w % 2 ^ nbits)

/-- What the decoder reads from an instruction whose bits are `w`, numbered as the opcode table numbers them. -/
def decodeTableWord (nbits w : Nat) : Option Instr :=
  match decodeWord (tableWord nbits w) with
  | .ok i => some i
  | .error _ => none

/-! ### Encoding (30_encoding R71 to R77) -/

/-- A micro-word: UOP in bits 31..28, PHASE in 27..25, bit 24 zero, OPERAND in 23..0 (30_encoding R74). -/
def microWord (uop : BitVec 4) (phase : Fsm) (operand : BitVec 24) : Word :=
  (uop.setWidth 32 <<< 28) ||| (phase.code.setWidth 32 <<< 25) ||| operand.setWidth 32

/-- SETPIN's OPERAND (30_encoding R76). -/
def setpinOperand (pin : OutPin) (level : Level) : BitVec 24 :=
  ((BitVec.ofBool pin.code).setWidth 24 <<< 4) ||| (BitVec.ofBool level).setWidth 24

/-- XFERC's OPERAND (30_encoding R76). -/
def xfercOperand (fill : Byte) (count : BitVec 16) : BitVec 24 :=
  (fill.setWidth 24 <<< 16) ||| count.setWidth 24

/-- The word of an instruction: R72's command words, and R74 to R76's micro-words. -/
def encode : Instr → Word
  | .init => 0x00000001#32
  | .configure => 0x00000002#32
  | .setpin phase pin level => microWord 0x1#4 phase (setpinOperand pin level)
  | .delay phase t => microWord 0x2#4 phase t
  | .xferc phase fill count => microWord 0x3#4 phase (xfercOperand fill count)
  | .xferi phase => microWord 0x4#4 phase 0#24
  | .poll phase => microWord 0x5#4 phase 0#24
  | .endOp phase code => microWord 0x6#4 phase (code.code.setWidth 24)

end Sys2Proof
end

