-- ==== Sys2Proof/Machine/Rom.lean ====
section
/-! DEFINITION. The fixed micro-program (41_sequencer R120): sixteen micro-operations, of which three take their
operand from the instance's parameters, and the ROM that holds their words. -/

namespace Sys2Proof.Machine

/-- The micro-program of an instance, address by address, as the assembler column of 41_sequencer R120 has it. -/
def romProgram (p : Params) : Vector Instr 16 :=
  #v[.setpin .resetting .csN false,
     .setpin .resetting .rstN false,
     .delay .resetting p.tResetUs,
     .setpin .resetting .rstN true,
     .delay .resetting p.tReinitUs,
     .setpin .resetting .csN true,
     .xferc .priming Config.primeFill Config.primeBytes,
     .setpin .streaming .csN false,
     .xferi .streaming,
     .setpin .flushing .csN true,
     .xferc .flushing p.flushFill p.flushBytes,
     .poll .awaitingCompletion,
     .endOp .done .done,
     .setpin .failed .csN true,
     .endOp .failed .transportFailure,
     .endOp .failed .completionTimeout]

/-- The micro-program ROM of an instance: 16 words of 32 bits (20_memory R50 (3), 41_sequencer R120). -/
def romOf (p : Params) : Vector Word 16 :=
  #v[encode (romProgram p)[0], encode (romProgram p)[1], encode (romProgram p)[2], encode (romProgram p)[3],
     encode (romProgram p)[4], encode (romProgram p)[5], encode (romProgram p)[6], encode (romProgram p)[7],
     encode (romProgram p)[8], encode (romProgram p)[9], encode (romProgram p)[10], encode (romProgram p)[11],
     encode (romProgram p)[12], encode (romProgram p)[13], encode (romProgram p)[14], encode (romProgram p)[15]]

end Sys2Proof.Machine
end

