-- ==== Sys2Proof/Machine/State.lean ====
section
/-! DEFINITION. The state of the block (10_state R20, every width from R22 to R34) as plain data, beside it what a step
needs of the block's surroundings (the instance's parameters, its ROM, the host's and the environment's inputs, the event
trace), the reasons a step can stop, and the state after block reset (R45). -/

namespace Sys2Proof.Machine

/-- LIFE, the bring-up status (10_state R22): codes 0, 1, 2; code 3 is never written and is no value here
(log entry 14). -/
inductive Life where
  /-- INIT has not run since block reset. -/
  | unbound
  /-- INIT succeeded. -/
  | ready
  /-- INIT failed to acquire the bus. -/
  | bringUpFailed
deriving DecidableEq, Repr

/-- The bus clocking mode: mode 0 is the only one the block asks for (00_scope R7, 20_memory R59). -/
inductive BusMode where
  | mode0
deriving DecidableEq, Repr

/-- The boundary events (00_scope R9). -/
inductive Event where
  /-- Request to run the auxiliary clock at `freqHz`. -/
  | auxClock (freqHz : Nat)
  /-- Request to acquire the bus channel; `ok` is the Transport's answer. -/
  | busOpen (rateHz : Nat) (mode : BusMode) (ok : Bool)
  /-- CS_N and RST_N become outputs driven at level 1, DONE a pulled-up input. -/
  | pinSetup
  /-- Output pin `pin` driven to `level`. -/
  | setPin (pin : OutPin) (level : Level)
  /-- The next event starts no earlier than `t` microseconds after this point. -/
  | delay (t : Nat)
  /-- One full-duplex exchange that sends `tx` in order; `ok` is the Transport's answer. -/
  | xfer (tx : List Byte) (ok : Bool)
  /-- The DONE input read at `level`. -/
  | sample (level : Level)
  /-- The poll interval. -/
  | wait (t : Nat)
  /-- The session ended with `outcome`. -/
  | finish (outcome : SessionOutcome)
deriving DecidableEq, Repr

/-- The width of a host access (20_memory R53, R54). -/
inductive Width where
  | w8
  | w16
  | w32
deriving DecidableEq, Repr

/-- One host access at a 17-bit byte address (20_memory R50 (1)). A write narrower than 32 bits carries its data in the
low bits of `value` (log entry 19). -/
inductive HostAccess where
  | read (width : Width) (address : BitVec 17)
  | write (width : Width) (address : BitVec 17) (value : Word)
deriving DecidableEq, Repr

/-- What can happen next (log entry 3): a host access (00_scope R6 (2)), a block reset (70_reset_and_hazards R230), or a
turn of the block itself. -/
inductive Input where
  | access (a : HostAccess)
  | blockReset
  | blockTurn
deriving DecidableEq, Repr

/-- The environment's draws (00_scope R10): the answers it is about to give, and how many it has given. Past the end of
a list the answers are the free constants of Config (log entry 2). -/
structure Environment where
  busOk : List Bool
  xferOk : List Bool
  doneLevel : List Level
  drawn : Nat
deriving DecidableEq, Repr

/-- The image bytes the host has written, by index, indices strictly rising (20_memory R52, log entry 1). -/
abbrev Memory := List Host.Cell

/-- The state of the machine. The fields down to `img` are the tuple of 10_state R20; `rom` and `params` are the
instance's constants (log entries 5, 7); the rest is the model's own (log entries 1, 2, 3, 18). -/
structure State where
  /-- LIFE, bring-up status (R22). -/
  life : Life
  /-- FSM, state of the protocol machine, 3 bits (R23). -/
  fsm : Fsm
  /-- RUN, a session's sequencer is executing (R24). -/
  run : Bool
  /-- UPC, micro-program counter (R25). -/
  upc : BitVec 4
  /-- LEN_IN, image length the host asks for (R26). -/
  lenIn : BitVec 32
  /-- FRAME_LEN, framing length field (R27). -/
  frameLen : BitVec 16
  /-- OFFSET, payload bytes whose exchanges returned success (R28). -/
  offset : BitVec 16
  /-- POLLS, DONE samples taken (R29). -/
  polls : BitVec 16
  /-- POLL_BUDGET, guard budget (R30). -/
  pollBudget : BitVec 16
  /-- OUTCOME, 3 bits (R31). -/
  outcome : SessionOutcome
  /-- OUTCOME_VALID (R31). -/
  outcomeValid : Bool
  /-- FAIL_PHASE, the FSM code of the state the last session failed in, 3 bits (R32). -/
  failPhase : Fsm
  /-- CS_N output latch (R33). -/
  csN : Level
  /-- RST_N output latch (R33). -/
  rstN : Level
  /-- OE, the outputs are driven (R33). -/
  oe : Bool
  /-- DONE_LAST, the level at the last sample (R33). -/
  doneLast : Level
  /-- AUXCLK_ON, the auxiliary clock was requested (R34). -/
  auxclkOn : Bool
  /-- BUS_ACQ, the bus channel was acquired (R34). -/
  busAcq : Bool
  /-- IMG, the bytes written since the last block reset (20_memory R52). -/
  img : Memory
  /-- How many block resets there have been: which unspecified contents IMG has (R45, log entry 1). -/
  imgEpoch : Nat
  /-- The micro-program ROM (41_sequencer R120); no step writes it. -/
  rom : Vector Word 16
  /-- The instance's parameters (00_scope R7); no step writes them. -/
  params : Params
  /-- The event trace, oldest first (00_scope R9). -/
  trace : List Event
  /-- What the host and the reset line do next, oldest first. -/
  inputs : List Input
  /-- The environment's draws. -/
  env : Environment
  /-- The values host reads have returned, oldest first. -/
  hostReads : List Word
deriving DecidableEq, Repr

/-- Why the machine stops with a fault. -/
inductive Fault where
  /-- Raised by the sequencer's step (and by XFERC's meaning on a COUNT that has no encoding) on an illegal micro-word:
  its address and the word (30_encoding R78). The spec's only fault, final. Safe: the spec gives the word no effect. -/
  | illegalMicroOp (upc : BitVec 4) (word : Word)
deriving DecidableEq, Repr

/-- Why the model gives a step no meaning. -/
inductive Refusal where
  /-- An instruction without a meaning, by its mnemonic; no arm of this model answers it. Safe: nothing follows from a
  run that stops. -/
  | notModelled (mnemonic : String)
deriving DecidableEq, Repr

/-- The state of an instance after power-on (10_state R45, 70_reset_and_hazards R231), with nothing pending. -/
def State.powerOn (p : Params) : State where
  life := .unbound
  fsm := .idle
  run := false
  upc := 0#4
  lenIn := 0#32
  frameLen := 0#16
  offset := 0#16
  polls := 0#16
  pollBudget := Config.pollBudgetReset
  outcome := .done
  outcomeValid := false
  failPhase := .idle
  csN := true
  rstN := true
  oe := false
  doneLast := false
  auxclkOn := false
  busAcq := false
  img := []
  imgEpoch := 0
  rom := romOf p
  params := p
  trace := []
  inputs := []
  env := ⟨[], [], [], 0⟩
  hostReads := []

/-- The machine right after reset: R45's values for the instance of `Config.params`. -/
def State.reset : State := State.powerOn Config.params

end Sys2Proof.Machine
end

