-- ==== Sys2Proof/Machine/Ops.lean ====
section
/-! DEFINITION. The named operations every meaning is written with: the image buffer, the registers and latches, the
environment's draws, the exchange, the failure entry and the end of a session, and block reset. -/

namespace Sys2Proof.Machine

/-! ### The image buffer (20_memory R52) -/

/-- The byte the host has written at an index, `none` where it has written nothing. -/
def Memory.lookup : Memory → Nat → Option Byte
  | [], _ => none
  | (b, v) :: rest, a => if a = b then some v else Memory.lookup rest a

/-- A byte write: the entry at the index is replaced, or inserted where its index belongs. -/
def Memory.write : Memory → Nat → Byte → Memory
  | [], a, v => [(a, v)]
  | (b, u) :: rest, a, v =>
    if a < b then (a, v) :: (b, u) :: rest
    else if a = b then (a, v) :: rest
    else (b, u) :: Memory.write rest a v

/-- Every index lies at or above `low` and below the buffer's end, and indices strictly rise. -/
def Memory.wfFrom : Nat → Memory → Bool
  | _, [] => true
  | low, (b, _) :: rest => decide (low ≤ b) && decide (b < Config.imgBytes) && Memory.wfFrom (b + 1) rest

/-- The canonical form: indices strictly rising, all of them in the buffer. No entry can equal what an unlisted index
reads as, since an unlisted index holds no written byte (log entry 1). -/
def Memory.wf (m : Memory) : Bool := Memory.wfFrom 0 m

/-- `ImgRead(i)` (20_memory R52): the written byte, or the free value of an unwritten one (log entry 1). -/
def State.imgRead (s : State) (i : Nat) : Byte :=
  match Memory.lookup s.img i with
  | some v => v
  | none => Config.unwrittenByte s.imgEpoch i

/-- The host's byte write `IMG[i] <- v` (20_memory R52). -/
def State.imgWrite (s : State) (i : BitVec 16) (v : Byte) : State :=
  { s with img := Memory.write s.img i.toNat v }

/-! ### Registers, latches and the trace -/

/-- `emit E` (00_scope R8): append a boundary event to the trace. -/
def State.emit (s : State) (e : Event) : State :=
  { s with trace := s.trace ++ [e] }

/-- The PHASE write of a micro-word (41_sequencer R122). -/
def State.setFsm (s : State) (phase : Fsm) : State :=
  { s with fsm := phase }

/-- `upc <- t` (00_scope R8). -/
def State.setUpc (s : State) (t : BitVec 4) : State :=
  { s with upc := t }

/-- `UPC <- UPC + 1` (41_sequencer R123), truncated to UPC's width (00_scope R8, log entry 8). -/
def State.advance (s : State) : State :=
  s.setUpc (s.upc + 1#4)

/-- A write of an output latch (10_state R33). -/
def State.drivePin (s : State) (pin : OutPin) (level : Level) : State :=
  match pin with
  | .csN => { s with csN := level }
  | .rstN => { s with rstN := level }

/-- The level of an output latch (10_state R33). -/
def State.pinLatch (s : State) (pin : OutPin) : Level :=
  match pin with
  | .csN => s.csN
  | .rstN => s.rstN

/-- The level the block drives on an output: none while OE = 0, when the latch only records it (10_state R33,
70_reset_and_hazards R231). -/
def State.pinDriven (s : State) (pin : OutPin) : Option Level :=
  if s.oe then some (s.pinLatch pin) else none

/-- The first pending input is taken. -/
def State.popInput (s : State) : State :=
  { s with inputs := s.inputs.tail }

/-- A host read returns `v`: seen by the host, no side effect on the block (20_memory R56). -/
def State.recordRead (s : State) (v : Word) : State :=
  { s with hostReads := s.hostReads ++ [v] }

/-! ### Draws (00_scope R10; log entry 2) -/

/-- `draw busOk`: the Transport's answer to the next bus acquisition. -/
def State.busAnswer (s : State) : Bool :=
  s.env.busOk.headD (Config.busOkDraw s.env.drawn)

/-- The answer to a bus acquisition has been given. -/
def State.takeBusAnswer (s : State) : State :=
  { s with env := { s.env with busOk := s.env.busOk.tail, drawn := s.env.drawn + 1 } }

/-- `draw xferOk`: the Transport's answer to the next exchange. -/
def State.xferAnswer (s : State) : Bool :=
  s.env.xferOk.headD (Config.xferOkDraw s.env.drawn)

/-- The answer to an exchange has been given. -/
def State.takeXferAnswer (s : State) : State :=
  { s with env := { s.env with xferOk := s.env.xferOk.tail, drawn := s.env.drawn + 1 } }

/-- `draw doneLevel`: the level of DONE at the next sample. -/
def State.doneSample (s : State) : Level :=
  s.env.doneLevel.headD (Config.doneLevelDraw s.env.drawn)

/-- A DONE sample has been taken. -/
def State.takeDoneSample (s : State) : State :=
  { s with env := { s.env with doneLevel := s.env.doneLevel.tail, drawn := s.env.drawn + 1 } }

/-! ### The exchange, the failure entry and the end of a session -/

/-- `xchg(tx)` (42_framer R140): one exchange, one event, one answer. CS_N is not touched, and what the bus returns is
discarded (20_memory R59, R67; log entries 10, 16, 22). -/
def exchange (tx : List Byte) (s : State) : Bool × State :=
  (s.xferAnswer, s.takeXferAnswer.emit (.xfer tx s.xferAnswer))

/-- `fail(TransportFailure)` (60_exceptions R203): FAIL_PHASE takes FSM, and the sequencer goes to ROM address 13. -/
def failTransport (s : State) : State :=
  { s with failPhase := s.fsm, upc := 13#4 }

/-- Budget exhaustion (43_poller R160): FAIL_PHASE takes FSM, and the sequencer goes to ROM address 15. -/
def failTimeout (s : State) : State :=
  { s with failPhase := s.fsm, upc := 15#4 }

/-- `finish(outcome)` (43_poller R166): the session has ended; UPC keeps the END's address. There is no return from a
failure into the session (60_exceptions R210): this is the one way out of it. -/
def finishSession (outcome : SessionOutcome) (s : State) : State :=
  { s with outcome := outcome, outcomeValid := true, run := false }.emit (.finish outcome)

/-! ### CONFIGURE's parts (40_host_commands R107 to R110) -/

/-- The session start of 40_host_commands R107. -/
def beginSession (s : State) : State :=
  { s with fsm := .idle, outcomeValid := false, outcome := .done, failPhase := .idle, offset := 0#16, polls := 0#16 }

/-- A rejected input (40_host_commands R108, R109): no hardware transaction; RUN stays 0 and UPC is unchanged. -/
def rejectInput (outcome : SessionOutcome) (s : State) : State :=
  { s with frameLen := 0#16, fsm := .failed, outcome := outcome, outcomeValid := true }.emit (.finish outcome)

/-- An accepted input (40_host_commands R110). -/
def acceptInput (s : State) : State :=
  { s with frameLen := s.lenIn.setWidth 16, upc := 0#4, fsm := .resetting, run := true }

/-! ### Block reset (70_reset_and_hazards R230; log entry 13) -/

/-- Every state element takes R45's value and the image contents become unspecified anew. What is not the block's
stays: the instance's parameters and ROM, what the host and the environment are about to do, and what the host read. -/
def blockReset (s : State) : State :=
  { State.powerOn s.params with
    rom := s.rom
    imgEpoch := s.imgEpoch + 1
    inputs := s.inputs
    env := s.env
    hostReads := s.hostReads }

/-! ### The serial bus and the host's byte lanes (20_memory R58, R60) -/

/-- The bits of a byte in the order they are shifted out (20_memory R58). -/
def wireBitsOfByte (msbFirst : Bool) (b : Byte) : List Bool :=
  let rising := (List.range 8).map b.getLsbD
  if msbFirst then rising.reverse else rising

/-- The bits of an exchange in the order they are shifted out (20_memory R57, R58). -/
def wireBits (p : Params) (tx : List Byte) : List Bool :=
  tx.flatMap (wireBitsOfByte p.msbFirst)

/-- A register word split into byte lanes, lane 0 first, little-endian (20_memory R60). -/
def byteLanes (w : Word) : List Byte :=
  [w.extractLsb' 0 8, w.extractLsb' 8 8, w.extractLsb' 16 8, w.extractLsb' 24 8]

end Sys2Proof.Machine
end

