-- ==== Sys2Proof/Machine/Flags.lean ====
section
/-! DEFINITION. The words the host reads, assembled from the state's registers and status bits (10_state R37 to R41),
and the tests the sequencer makes on status (42_framer R143, 43_poller R160). -/

namespace Sys2Proof.Machine

/-- The 2-bit code of LIFE (10_state R22). -/
def Life.code : Life → BitVec 2
  | .unbound => 0#2
  | .ready => 1#2
  | .bringUpFailed => 2#2

/-- STATUS (10_state R37): each field at its place in the rule's table, every other bit 0. -/
def State.statusWord (s : State) : Word :=
  s.fsm.code.setWidth 32 |||
  ((BitVec.ofBool s.run).setWidth 32 <<< 3) |||
  (s.life.code.setWidth 32 <<< 4) |||
  ((BitVec.ofBool s.outcomeValid).setWidth 32 <<< 6) |||
  (s.outcome.code.setWidth 32 <<< 8) |||
  (s.failPhase.code.setWidth 32 <<< 12) |||
  (s.upc.setWidth 32 <<< 16)

/-- PINS (10_state R38): each bit at its place in the rule's table, every other bit 0. -/
def State.pinsWord (s : State) : Word :=
  (BitVec.ofBool s.csN).setWidth 32 |||
  ((BitVec.ofBool s.rstN).setWidth 32 <<< 1) |||
  ((BitVec.ofBool s.doneLast).setWidth 32 <<< 2) |||
  ((BitVec.ofBool s.oe).setWidth 32 <<< 3) |||
  ((BitVec.ofBool s.auxclkOn).setWidth 32 <<< 4) |||
  ((BitVec.ofBool s.busAcq).setWidth 32 <<< 5)

/-- PARAM (10_state R39): P_CHUNK in bits 15..0, P_FLUSH_BYTES in bits 31..16. -/
def State.paramWord (s : State) : Word :=
  (s.params.flushBytes.setWidth 32 <<< 16) ||| s.params.chunk.setWidth 32

/-- XFERI's exit test, `OFFSET == FRAME_LEN` (42_framer R143). -/
def State.imageSent (s : State) : Bool :=
  s.offset == s.frameLen

/-- POLL's first test, `POLLS >= POLL_BUDGET` (43_poller R160). -/
def State.budgetUsed (s : State) : Bool :=
  decide (s.pollBudget ≤ s.polls)

/-- POLL's success test, the sampled level is P_DONE_ACTIVE (43_poller R160). -/
def State.doneActive (s : State) (level : Level) : Bool :=
  level == s.params.doneActive

/-- POLL's exhaustion test after a sample, `POLLS == POLL_BUDGET` (43_poller R160). -/
def State.budgetReached (s : State) : Bool :=
  s.polls == s.pollBudget

end Sys2Proof.Machine
end

