-- ==== Sys2Proof/Machine/Operands.lean ====
section
/-! DEFINITION. The operands that are not in the word: XFERC's run of constant bytes (42_framer R141), XFERI's next
chunk (R143), the lengths CONFIGURE tests (40_host_commands R108, R109) and the bits of host addresses
(20_memory R51, R53). -/

namespace Sys2Proof.Machine

/-- XFERC's list: `count` copies of `fill` (42_framer R141). -/
def fillBytes (fill : Byte) (count : BitVec 16) : List Byte :=
  List.replicate count.toNat fill

/-- XFERI's chunk length `k = min(P_CHUNK, FRAME_LEN - OFFSET)`, 16-bit unsigned (42_framer R143; outside the
rule's precondition OFFSET < FRAME_LEN see log entry 9). -/
def State.chunkLength (s : State) : BitVec 16 :=
  if s.params.chunk ≤ s.frameLen - s.offset then s.params.chunk else s.frameLen - s.offset

/-- XFERI's list: the image bytes from OFFSET on, `chunkLength` of them (42_framer R143). -/
def State.chunkBytes (s : State) : List Byte :=
  (List.range s.chunkLength.toNat).map fun j => s.imgRead (s.offset.toNat + j)

/-- CONFIGURE's first check, `L == 0` (40_host_commands R108). -/
def State.lenEmpty (s : State) : Bool :=
  s.lenIn == 0#32

/-- CONFIGURE's second check, `L > MAX_LEN` (40_host_commands R109). -/
def State.lenOversized (s : State) : Bool :=
  decide (Config.maxLen < s.lenIn.toNat)

/-- The address lies in the image window 0x10000..0x1FFFF (20_memory R51). -/
def inImageWindow (address : BitVec 17) : Bool :=
  address[16]

/-- The image index of a window address (20_memory R52). -/
def imageIndex (address : BitVec 17) : BitVec 16 :=
  address.setWidth 16

/-- The one access form the register range takes: 32 bits, at a multiple of 4 (20_memory R53). -/
def registerAccess (width : Width) (address : BitVec 17) : Bool :=
  width == .w32 && address.extractLsb' 0 2 == 0#2

/-- The one access form the image window takes: 8 bits (20_memory R53). -/
def imageAccess (width : Width) : Bool :=
  width == .w8

end Sys2Proof.Machine
end

