-- ==== Sys2Proof/Machine/Framer.lean ====
section
/-! DEFINITION. The two micro-operations that move bytes onto the bus (42_framer): XFERC and XFERI. -/

namespace Sys2Proof.Machine

/-- XFERC with an operand that has an encoding (42_framer R141). -/
def sendFill (fill : Byte) (count : BitVec 16) (s : State) : State :=
  let r := exchange (fillBytes fill count) s
  if r.1 then r.2.advance else failTransport r.2

/-- XFERC (42_framer R141). A COUNT of 0 has no legal encoding, and executing its word faults (30_encoding R78, log
entry 20). -/
def execXferc (phase : Fsm) (fill : Byte) (count : BitVec 16) (s : State) : Host.Outcome State Fault Refusal :=
  if count = 0#16 then .fault (.illegalMicroOp s.upc (encode (.xferc phase fill count)))
  else .next (sendFill fill count (s.setFsm phase))

/-- OFFSET and UPC after a chunk of `k` bytes was sent (42_framer R143). -/
def chunkSent (k : BitVec 16) (s : State) : State :=
  let s1 := { s with offset := s.offset + k }
  if s1.imageSent then s1.advance else s1

/-- XFERI after the PHASE write (42_framer R143). -/
def sendChunk (s : State) : State :=
  let r := exchange s.chunkBytes s
  if r.1 then chunkSent s.chunkLength r.2 else failTransport r.2

/-- XFERI (42_framer R143). -/
def execXferi (phase : Fsm) (s : State) : Host.Outcome State Fault Refusal :=
  .next (sendChunk (s.setFsm phase))

end Sys2Proof.Machine
end

