-- ==== Sys2Proof/Machine/HostCommands.lean ====
section
/-! DEFINITION. The two host commands (40_host_commands). Both are reached only by a write to CMD with RUN = 0
(R100, Machine/HostAccess.lean; log entry 12). -/

namespace Sys2Proof.Machine

/-- The steps of INIT with LIFE = Unbound, up to and with the Transport's answer (40_host_commands R102). -/
def requestBus (s : State) : Bool × State :=
  let s1 := { s.emit (.auxClock s.params.auxClkHz) with auxclkOn := true }
  (s1.busAnswer, s1.takeBusAnswer.emit (.busOpen s1.params.busHz .mode0 s1.busAnswer))

/-- The steps of INIT after the bus was acquired: both latches are written high before the outputs are enabled
(40_host_commands R102). -/
def setUpPins (s : State) : State :=
  let s1 := { s with busAcq := true, csN := true, rstN := true }.emit .pinSetup
  { s1 with oe := true, fsm := .idle, life := .ready }

/-- INIT with LIFE = Unbound (40_host_commands R102). -/
def bringUp (s : State) : State :=
  let r := requestBus s
  if r.1 then setUpPins r.2 else { r.2 with life := .bringUpFailed }

/-- INIT (40_host_commands R102): nothing when it has run before, whether it succeeded (R103) or failed (R104). -/
def execInit (s : State) : Host.Outcome State Fault Refusal :=
  .next (match s.life with
    | .unbound => bringUp s
    | .ready => s
    | .bringUpFailed => s)

/-- CONFIGURE with LIFE = Ready, after the session start: the two checks and the acceptance
(40_host_commands R108 to R110). -/
def validateInput (s : State) : State :=
  if s.lenEmpty then rejectInput .emptyInput s
  else if s.lenOversized then rejectInput .oversizedInput s
  else acceptInput s

/-- CONFIGURE (40_host_commands R107): ignored unless LIFE = Ready. -/
def execConfigure (s : State) : Host.Outcome State Fault Refusal :=
  .next (if s.life = .ready then validateInput (beginSession s) else s)

end Sys2Proof.Machine
end

