-- ==== Sys2Proof/Machine/Poller.lean ====
section
/-! DEFINITION. The completion poller and the end of a session (43_poller): POLL and END. -/

namespace Sys2Proof.Machine

/-- The DONE sample of POLL: the event, DONE_LAST and POLLS (43_poller R160). -/
def takeSample (s : State) : State :=
  { s.takeDoneSample.emit (.sample s.doneSample) with doneLast := s.doneSample, polls := s.polls + 1#16 }

/-- What POLL does with the level it sampled: success first, then exhaustion, then the wait (43_poller R160, R163). -/
def judgeSample (level : Level) (s : State) : State :=
  if s.doneActive level then s.advance
  else if s.budgetReached then failTimeout s
  else s.emit (.wait s.params.pollIntervalUs)

/-- POLL after the PHASE write (43_poller R160; log entry 11). -/
def pollOnce (s : State) : State :=
  if s.budgetUsed then failTimeout s else judgeSample s.doneSample (takeSample s)

/-- POLL (43_poller R160). -/
def execPoll (phase : Fsm) (s : State) : Host.Outcome State Fault Refusal :=
  .next (pollOnce (s.setFsm phase))

/-- END (43_poller R166). -/
def execEnd (phase : Fsm) (code : SessionOutcome) (s : State) : Host.Outcome State Fault Refusal :=
  .next (finishSession code (s.setFsm phase))

end Sys2Proof.Machine
end

