-- ==== Sys2Proof/Machine/Sequencer.lean ====
section
/-! DEFINITION. The two micro-operations that move no data (41_sequencer): SETPIN and DELAY. -/

namespace Sys2Proof.Machine

/-- SETPIN (41_sequencer R125): the latch takes the level, the event is emitted even where the latch already had it
(R126 (a)), and the next word follows. -/
def execSetpin (phase : Fsm) (pin : OutPin) (level : Level) (s : State) : Host.Outcome State Fault Refusal :=
  .next (((s.setFsm phase).drivePin pin level).emit (.setPin pin level)).advance

/-- DELAY (41_sequencer R127): a lower bound between two events, recorded in the trace (log entry 15). -/
def execDelay (phase : Fsm) (t : BitVec 24) (s : State) : Host.Outcome State Fault Refusal :=
  .next ((s.setFsm phase).emit (.delay t.toNat)).advance

end Sys2Proof.Machine
end

