-- ==== Sys2Proof/Machine/Dispatch.lean ====
section
/-! DEFINITION. The meaning of each instruction, one arm a constructor. -/

namespace Sys2Proof.Machine

def exec (i : Instr) (s : State) : Host.Outcome State Fault Refusal :=
  match i with
  -- host commands (40_host_commands)
  | .init => Sys2Proof.Machine.execInit s
  | .configure => Sys2Proof.Machine.execConfigure s
  -- pins and delays (41_sequencer)
  | .setpin phase pin level => Sys2Proof.Machine.execSetpin phase pin level s
  | .delay phase t => Sys2Proof.Machine.execDelay phase t s
  -- framer (42_framer)
  | .xferc phase fill count => Sys2Proof.Machine.execXferc phase fill count s
  | .xferi phase => Sys2Proof.Machine.execXferi phase s
  -- poller and session end (43_poller)
  | .poll phase => Sys2Proof.Machine.execPoll phase s
  | .endOp phase code => Sys2Proof.Machine.execEnd phase code s

end Sys2Proof.Machine
end

