-- ==== Sys2Proof/Machine/Fetch.lean ====
section
/-! DEFINITION. The sequencer's step (41_sequencer R121): fetch, decode, execute. -/

namespace Sys2Proof.Machine

/-- `ROM[UPC]` (41_sequencer R121). -/
def State.fetch (s : State) : Word :=
  s.rom[s.upc.toNat]

/-- SEQ_STEP (41_sequencer R121): the word decodes and runs, or faults (30_encoding R78). The PHASE write is each
micro-operation's first act (R122). -/
def sequencerStep (s : State) : Host.Outcome State Fault Refusal :=
  match decodeMicro s.fetch with
  | .ok i => exec i s
  | .error _ => .fault (.illegalMicroOp s.upc s.fetch)

/-- The block's turn: a sequencer step exactly when RUN = 1; with RUN = 0 the block is idle and keeps its state
(41_sequencer R121, 60_exceptions R217, log entry 4). -/
def blockTurn (s : State) : Host.Outcome State Fault Refusal :=
  if s.run then sequencerStep s else .next s

end Sys2Proof.Machine
end

