-- ==== Sys2Proof/Machine/HostAccess.lean ====
section
/-! DEFINITION. The host's side of the block: the address map, what each read returns and what each write does
(20_memory R51 to R56, 10_state R37 to R41, 40_host_commands R100, R112, R113), and the host's program notation
(30_encoding R82). -/

namespace Sys2Proof.Machine

/-- What a 32-bit read of a register address returns (20_memory R51); CMD and the unmapped range read 0
(10_state R41, 20_memory R54). -/
def State.readRegister (s : State) (address : BitVec 17) : Word :=
  match address.toNat with
  | 0x00004 => s.statusWord
  | 0x00008 => s.lenIn
  | 0x0000C => s.frameLen.setWidth 32
  | 0x00010 => s.offset.setWidth 32
  | 0x00014 => s.polls.setWidth 32
  | 0x00018 => s.pollBudget.setWidth 32
  | 0x0001C => s.paramWord
  | 0x00020 => s.pinsWord
  | _ => 0#32

/-- What a host read returns (20_memory R51 to R54); a byte is zero-extended (log entry 19). -/
def State.readValue (s : State) (width : Width) (address : BitVec 17) : Word :=
  if inImageWindow address then
    if imageAccess width then (s.imgRead (imageIndex address).toNat).setWidth 32 else 0#32
  else if registerAccess width address then s.readRegister address else 0#32

/-- A 32-bit write to CMD with RUN = 0: a command runs as one step, a reserved word is ignored
(40_host_commands R100, 30_encoding R73). -/
def writeCommand (c : Word) (s : State) : Host.Outcome State Fault Refusal :=
  match decodeCommand c with
  | .ok i => exec i s
  | .error _ => .next s

/-- A 32-bit write to a register address with RUN = 0 (20_memory R51): CMD, LEN_IN and POLL_BUDGET take it, every
other address ignores it (10_state R37 to R40, 20_memory R54). -/
def writeRegister (address : BitVec 17) (value : Word) (s : State) : Host.Outcome State Fault Refusal :=
  match address.toNat with
  | 0x00000 => writeCommand value s
  | 0x00008 => .next { s with lenIn := value }
  | 0x00018 => .next { s with pollBudget := value.setWidth 16 }
  | _ => .next s

/-- A host write (20_memory R51 to R55): ignored while RUN = 1, and ignored where R53 gives the access no meaning. -/
def hostWrite (width : Width) (address : BitVec 17) (value : Word) (s : State) : Host.Outcome State Fault Refusal :=
  if s.run then .next s
  else if inImageWindow address then
    .next (if imageAccess width then s.imgWrite (imageIndex address) (value.setWidth 8) else s)
  else if registerAccess width address then writeRegister address value s
  else .next s

/-- One host access, one atomic step (20_memory R62). -/
def hostAccess (a : HostAccess) (s : State) : Host.Outcome State Fault Refusal :=
  match a with
  | .read width address => .next (s.recordRead (s.readValue width address))
  | .write width address value => hostWrite width address value s

/-! ### Host program notation (30_encoding R82) -/

/-- `W32 <addr>, <value>`. -/
def w32 (address : BitVec 17) (value : Word) : Input := .access (.write .w32 address value)

/-- `R32 <addr>`. -/
def r32 (address : BitVec 17) : Input := .access (.read .w32 address)

/-- `W8 <addr>, <byte>`. -/
def w8 (address : BitVec 17) (byte : Byte) : Input := .access (.write .w8 address (byte.setWidth 32))

/-- `R8 <addr>`. -/
def r8 (address : BitVec 17) : Input := .access (.read .w8 address)

/-- `INIT` stands for a write of its command word to CMD. -/
def hostInit : Input := w32 0x00000#17 (encode .init)

/-- `CONFIGURE` stands for a write of its command word to CMD. -/
def hostConfigure : Input := w32 0x00000#17 (encode .configure)

/-- The byte writes of `LOAD_IMAGE`, from image index `i` on. -/
def loadBytes : Nat → List Byte → List Input
  | _, [] => []
  | i, b :: rest => w8 (BitVec.ofNat 17 (0x10000 + i)) b :: loadBytes (i + 1) rest

/-- `LOAD_IMAGE [b0, ...]`: the bytes in increasing order, then their number to LEN_IN. -/
def loadImage (bytes : List Byte) : List Input :=
  loadBytes 0 bytes ++ [w32 0x00008#17 (BitVec.ofNat 32 bytes.length)]

/-- `WAIT_IDLE` as far as a list of inputs can say it: `n` times a turn of the block and a read of STATUS. The host
leaves the loop at the first value with `statusIdle` (log entry 23). -/
def waitIdle (n : Nat) : List Input :=
  (List.replicate n [Input.blockTurn, r32 0x00004#17]).flatten

/-- The exit test of `WAIT_IDLE`: BUSY, bit 3 of STATUS, is 0. -/
def statusIdle (status : Word) : Bool :=
  !status[3]

end Sys2Proof.Machine
end

