-- ==== Sys2Proof/Machine/Step.lean ====
section
/-! DEFINITION. One step of the machine (20_memory R62, 00_scope R11), and how a test places the next instruction. -/

namespace Sys2Proof.Machine

/-- One atomic step: the first pending input is served; with none pending the block has its turn (log entry 3). -/
def step (s : State) : Host.Outcome State Fault Refusal :=
  match s.inputs with
  | .access a :: _ => hostAccess a s.popInput
  | .blockReset :: _ => .next (blockReset s.popInput)
  | .blockTurn :: _ => blockTurn s.popInput
  | [] => blockTurn s.popInput

/-- The instruction of `w` is placed where the next step fetches it (log entry 6): a command word as the host's next
access, a write to CMD, with RUN = 0; any other word in the ROM at UPC, with RUN = 1 and the next turn the block's. -/
def State.withFetchWord (s : State) (nbits w : Nat) : State :=
  match decodeCommand (tableWord nbits w) with
  | .ok _ => { s with run := false, inputs := w32 0x00000#17 (tableWord nbits w) :: s.inputs }
  | .error _ =>
    { s with run := true, rom := s.rom.set s.upc.toNat (tableWord nbits w), inputs := .blockTurn :: s.inputs }

end Sys2Proof.Machine
end

