-- ==== Sys2Proof/Safety.lean ====
section
/-! DEFINITION. What the claims about runs are stated in: runs, the events of a run, the invariant of reachable states
(10_state R44, with what each ROM address adds to it), the reports of a finished session (43_poller R168), the edges of
the protocol machine (41_sequencer R124), and the time bounds over time-stamped traces (70_reset_and_hazards R241). -/

namespace Sys2Proof.Machine

/-! ### Runs -/

/-- `n` steps lead from `s` to `t`, none of them a fault or a refusal. -/
def RunsTo : Nat → State → State → Prop
  | 0, s, t => t = s
  | n + 1, s, t => ∃ u, step s = .next u ∧ RunsTo n u t

/-- A session that CONFIGURE has just accepted (40_host_commands R110), with the block left to itself. -/
def SessionBegins (s : State) : Prop :=
  s.run = true ∧ s.upc = 0#4 ∧ s.inputs = []

/-- `events` is what a run from `s` to `t` has emitted. -/
def Emitted (s t : State) (events : List Event) : Prop :=
  t.trace = s.trace ++ events

/-- The next input is a block reset. -/
def ResetPending (s : State) : Prop :=
  ∃ rest, s.inputs = Input.blockReset :: rest

/-! ### The events of a run -/

/-- Every byte given to the Transport, in order, the bytes of failed exchanges among them (90_conflicts C7). -/
def busBytes : List Event → List Byte
  | [] => []
  | .xfer tx _ :: rest => tx ++ busBytes rest
  | _ :: rest => busBytes rest

/-- The levels of the DONE samples, in order. -/
def sampleLevels : List Event → List Level
  | [] => []
  | .sample v :: rest => v :: sampleLevels rest
  | _ :: rest => sampleLevels rest

/-- The events of polling that takes `n` inactive samples, each followed by the poll interval, and ends with a sample at
`last` (43_poller R160). -/
def pollEvents (p : Params) : Nat → Level → List Event
  | 0, last => [.sample last]
  | n + 1, last => .sample (!p.doneActive) :: .wait p.pollIntervalUs :: pollEvents p n last

/-- How many poll intervals were waited out. -/
def waitCount : List Event → Nat
  | [] => 0
  | .wait _ :: rest => waitCount rest + 1
  | _ :: rest => waitCount rest

/-- The image bytes with indices `from_` up to but not including `to_` (00_scope R8). -/
def imageSlice (s : State) (from_ to_ : Nat) : List Byte :=
  (List.range (to_ - from_)).map fun j => s.imgRead (from_ + j)

/-- The six events of the Resetting sequence (41_sequencer R128). -/
def resetEvents (p : Params) : List Event :=
  [.setPin .csN false, .setPin .rstN false, .delay p.tResetUs.toNat,
   .setPin .rstN true, .delay p.tReinitUs.toNat, .setPin .csN true]

/-! ### Illegal micro-words and host addresses, in the words of the rules -/

/-- 30_encoding R78, on the word as a number: UOP reserved, bit 24 set, a bit that R76 marks zero set, XFERC with
COUNT 0, or END with CODE 5 or more. -/
def IllegalMicroWord (w : Nat) : Prop :=
  let uop := w / 2 ^ 28 % 16
  let operand := w % 2 ^ 24
  uop = 0 ∨ 7 ≤ uop ∨ w / 2 ^ 24 % 2 = 1 ∨
    (uop = 1 ∧ (operand / 2 ^ 5 ≠ 0 ∨ operand / 2 % 8 ≠ 0)) ∨
    (uop = 3 ∧ operand % 2 ^ 16 = 0) ∨
    (uop = 4 ∧ operand ≠ 0) ∨ (uop = 5 ∧ operand ≠ 0) ∨
    (uop = 6 ∧ (operand / 2 ^ 3 ≠ 0 ∨ 5 ≤ operand % 8))

/-- The accesses that 20_memory R54 lists. -/
def OutsideAccessRules (width : Width) (address : Nat) : Prop :=
  (address < 0x10000 ∧ (width ≠ .w32 ∨ address % 4 ≠ 0 ∨ 0x24 ≤ address)) ∨
    (0x10000 ≤ address ∧ width ≠ .w8)

/-- The next turn is the block's own: an explicit turn is next, or nothing is pending. -/
def BlockHasTurn (s : State) : Prop :=
  s.inputs = [] ∨ ∃ rest, s.inputs = Input.blockTurn :: rest

/-! ### The invariant -/

/-- Nothing of the image was sent and nothing has failed. -/
def NothingSent (s : State) : Prop :=
  s.offset = 0#16 ∧ s.polls = 0#16 ∧ s.failPhase = .idle

/-- The whole image was sent and nothing has failed. -/
def AllSent (s : State) : Prop :=
  s.offset = s.frameLen ∧ s.failPhase = .idle

/-- FAIL_PHASE names a state that makes an exchange (60_exceptions R203). -/
def FailedExchange (s : State) : Prop :=
  s.failPhase = .priming ∨ s.failPhase = .streaming ∨ s.failPhase = .flushing

/-- The output latches. -/
def Pins (s : State) (cs rst : Level) : Prop :=
  s.csN = cs ∧ s.rstN = rst

/-- What holds at each ROM address before its word runs (41_sequencer R120 to R129, 42_framer R143, 43_poller R160). -/
def Place (s : State) : Prop :=
  match s.upc.toNat with
  | 0 => Pins s true true ∧ s.fsm = .resetting ∧ NothingSent s
  | 1 => Pins s false true ∧ s.fsm = .resetting ∧ NothingSent s
  | 2 => Pins s false false ∧ s.fsm = .resetting ∧ NothingSent s
  | 3 => Pins s false false ∧ s.fsm = .resetting ∧ NothingSent s
  | 4 => Pins s false true ∧ s.fsm = .resetting ∧ NothingSent s
  | 5 => Pins s false true ∧ s.fsm = .resetting ∧ NothingSent s
  | 6 => Pins s true true ∧ s.fsm = .resetting ∧ NothingSent s
  | 7 => Pins s true true ∧ s.fsm = .priming ∧ NothingSent s
  | 8 => Pins s false true ∧ s.fsm = .streaming ∧ s.failPhase = .idle ∧ s.polls = 0#16 ∧
      s.offset.toNat < s.frameLen.toNat
  | 9 => Pins s false true ∧ s.fsm = .streaming ∧ AllSent s ∧ s.polls = 0#16
  | 10 => Pins s true true ∧ s.fsm = .flushing ∧ AllSent s ∧ s.polls = 0#16
  | 11 => Pins s true true ∧ AllSent s ∧
      ((s.fsm = .flushing ∧ s.polls = 0#16) ∨
        (s.fsm = .awaitingCompletion ∧ s.polls.toNat < s.pollBudget.toNat))
  | 12 => Pins s true true ∧ s.fsm = .awaitingCompletion ∧ AllSent s ∧ 1 ≤ s.polls.toNat
  | 13 => Pins s (s.failPhase != .streaming) true ∧ s.fsm = s.failPhase ∧ FailedExchange s ∧ s.polls = 0#16
  | 14 => Pins s true true ∧ s.fsm = .failed ∧ FailedExchange s ∧ s.polls = 0#16
  | _ => Pins s true true ∧ s.fsm = .awaitingCompletion ∧ s.failPhase = .awaitingCompletion ∧
      s.offset = s.frameLen ∧ s.polls = s.pollBudget

/-- What holds while a session runs (10_state R44 (a), (b), (e)). -/
structure Running (s : State) : Prop where
  life : s.life = .ready
  valid : s.outcomeValid = false
  outcome : s.outcome = .done
  length : 1 ≤ s.frameLen.toNat
  offset : s.offset.toNat ≤ s.frameLen.toNat
  polls : s.polls.toNat ≤ s.pollBudget.toNat
  place : Place s

/-- What a finished or rejected session has left (43_poller R168, 60_exceptions R200 to R205). -/
def Report (s : State) : Prop :=
  match s.outcome with
  | .done => s.fsm = .done ∧ AllSent s ∧ s.upc = 12#4 ∧ 1 ≤ s.polls.toNat
  | .emptyInput => s.fsm = .failed ∧ NothingSent s ∧ s.frameLen = 0#16
  | .oversizedInput => s.fsm = .failed ∧ NothingSent s ∧ s.frameLen = 0#16
  | .transportFailure => s.fsm = .failed ∧ FailedExchange s ∧ s.upc = 14#4 ∧ s.polls = 0#16
  | .completionTimeout => s.fsm = .failed ∧ s.failPhase = .awaitingCompletion ∧ s.offset = s.frameLen ∧ s.upc = 15#4

/-- What holds while no session runs (10_state R25, R44 (c), (f)). -/
structure Resting (s : State) : Prop where
  pins : Pins s true true
  upc : s.upc = 0#4 ∨ s.upc = 12#4 ∨ s.upc = 14#4 ∨ s.upc = 15#4
  report : s.outcomeValid = true → Report s
  fresh : s.outcomeValid = false → s.fsm = .idle ∧ s.upc = 0#4 ∧ s.outcome = .done ∧ NothingSent s

/-- What LIFE says of bring-up (10_state R22, R34, R44 (d), 40_host_commands R105). -/
def BringUp (s : State) : Prop :=
  match s.life with
  | .unbound => s.oe = false ∧ s.auxclkOn = false ∧ s.busAcq = false ∧ s.outcomeValid = false
  | .ready => s.oe = true ∧ s.auxclkOn = true ∧ s.busAcq = true
  | .bringUpFailed => s.oe = false ∧ s.auxclkOn = true ∧ s.busAcq = false ∧ s.outcomeValid = false

/-- The invariant of reachable states: 10_state R44, the ROM of 41_sequencer R120 in place, and the image buffer in
its canonical form. -/
structure Inv (s : State) : Prop where
  rom : s.rom = romOf s.params
  image : Memory.wf s.img = true
  bringUp : BringUp s
  running : s.run = true → Running s
  resting : s.run = false → Resting s

/-! ### The protocol machine's edges (41_sequencer R124) -/

/-- FSM keeps its state, takes the next one of the forward path, or enters Failed from a state that can fail. -/
def PhaseEdge (from_ to_ : Fsm) : Prop :=
  from_ = to_ ∨
    (from_, to_) ∈ [(Fsm.resetting, Fsm.priming), (.priming, .streaming), (.streaming, .flushing),
      (.flushing, .awaitingCompletion), (.awaitingCompletion, .done),
      (.priming, .failed), (.streaming, .failed), (.flushing, .failed), (.awaitingCompletion, .failed)]

/-! ### The bound of 41_sequencer R131 -/

/-- The number of chunks, `ceil(L / C)` (42_framer R144). -/
def chunkCount (s : State) : Nat :=
  (s.frameLen.toNat + s.params.chunk.toNat - 1) / s.params.chunk.toNat

/-- The most sequencer steps a session that no exchange fails takes (41_sequencer R131). -/
def sessionBound (s : State) : Nat :=
  6 + 1 + (1 + chunkCount s) + 2 + max s.pollBudget.toNat 1 + 1

/-! ### Time (70_reset_and_hazards R241; log entry 15) -/

/-- An event with the ticks of a clock at which it starts and ends. -/
structure Stamped where
  event : Event
  start : Nat
  stop : Nat
deriving DecidableEq, Repr

/-- The lower bound, in microseconds, that an event puts between its neighbours. -/
def holdUs : Event → Nat
  | .delay t => t
  | .wait t => t
  | _ => 0

/-- The number of bytes an event clocks out. -/
def clockedBytes : Event → Nat
  | .xfer tx _ => tx.length
  | _ => 0

/-- Times run forward, every Delay and Wait keeps its bound between the event before it and the event after it, and an
exchange of n bytes takes at least the time of 8n bits (70_reset_and_hazards R241). A microsecond is `tick` ticks. -/
def TimingOk (tick busHz : Nat) : List Stamped → Prop
  | [] => True
  | a :: rest =>
    a.start ≤ a.stop ∧
    8 * clockedBytes a.event * (1000000 * tick) ≤ (a.stop - a.start) * busHz ∧
    (match rest with
     | [] => True
     | b :: [] => a.stop ≤ b.start
     | b :: c :: _ => a.stop ≤ b.start ∧ a.stop + holdUs b.event * tick ≤ c.start) ∧
    TimingOk tick busHz rest

end Sys2Proof.Machine
end

