-- ==== Sys2Proof/WellFormed.lean ====
section
/-! DEFINITION. Which instructions have an encoding. Every operand range of 30_encoding R76 but one is the whole of its
type (the outcome of END is one of the five codes by its type); the one check left is XFERC's count. -/

namespace Sys2Proof

/-- The operand lies in the range that 30_encoding R76 gives it: XFERC's COUNT is 1..65535. -/
def Instr.wellFormed : Instr → Bool
  | .init => true
  | .configure => true
  | .setpin _ _ _ => true
  | .delay _ _ => true
  | .xferc _ _ count => count != 0
  | .xferi _ => true
  | .poll _ => true
  | .endOp _ _ => true

end Sys2Proof
end

