-- ==== Sys2Proof/Certificates/Slice0/Obligations.lean ====
section
/-! DEFINITION. The statements for the provers. Each docstring names the rule of spec/ it rests on; OBLIGATIONS.json
says which of them formalise a rule whole. A free value (a draw, an unwritten image byte) stands in them as the model's
own function of the state, so each holds for every value of it. -/

open Sys2Proof Sys2Proof.Machine

/-! ### Encoding -/

/-- Decoding the encoding of a well-formed instruction gives the instruction back (30_encoding R72, R74 to R77). -/
def Obligations.DecodeOfEncodeIsTheInstruction : Prop :=
  ∀ i : Instr, i.wellFormed = true → decodeWord (encode i) = .ok i

/-- A word that decodes is the encoding of what it decodes to, which is well-formed: no word has two meanings and no
bit of a legal word is ignored (30_encoding R73, R78, R80). -/
def Obligations.EncodeOfDecodeIsTheWord : Prop :=
  ∀ (w : Word) (i : Instr), decodeWord w = .ok i → encode i = w ∧ i.wellFormed = true

/-- A micro-word faults when it is executed exactly if it is one of those 30_encoding R78 lists. -/
def Obligations.IllegalMicroWordsFaultAndNoOthers : Prop :=
  ∀ s : State, s.run = true → BlockHasTurn s →
    (step s = .fault (.illegalMicroOp s.upc s.fetch) ↔ IllegalMicroWord s.fetch.toNat)

/-- A few words of 41_sequencer R120 and 95_test_vectors, written out, decode to their instructions. -/
def Obligations.ListedWordsDecode : Prop :=
  decodeWord 0x00000001#32 = .ok .init ∧
  decodeWord 0x00000002#32 = .ok .configure ∧
  decodeWord 0x12000011#32 = .ok (.setpin .resetting .rstN true) ∧
  decodeWord 0x220004B0#32 = .ok (.delay .resetting 1200#24) ∧
  decodeWord 0x38FF0003#32 = .ok (.xferc .flushing 0xFF#8 3#16) ∧
  decodeWord 0x46000000#32 = .ok (.xferi .streaming) ∧
  decodeWord 0x5A000000#32 = .ok (.poll .awaitingCompletion) ∧
  decodeWord 0x6E000004#32 = .ok (.endOp .failed .completionTimeout)

/-- The ROM of every instance is 41_sequencer R120's, with the operand fields of addresses 2, 4 and 10 taken from its
parameters, and no step writes it (R120, 20_memory R66). -/
def Obligations.RomHoldsTheProgramAndIsNeverWritten : Prop :=
  (∀ p : Params, romOf p =
    #v[0x12000000#32, 0x12000010#32, BitVec.ofNat 32 (0x22000000 + p.tResetUs.toNat), 0x12000011#32,
       BitVec.ofNat 32 (0x22000000 + p.tReinitUs.toNat), 0x12000001#32, 0x34000001#32, 0x16000000#32,
       0x46000000#32, 0x18000001#32,
       BitVec.ofNat 32 (0x38000000 + p.flushFill.toNat * 65536 + p.flushBytes.toNat), 0x5A000000#32,
       0x6C000000#32, 0x1E000001#32, 0x6E000003#32, 0x6E000004#32]) ∧
  ∀ s t : State, step s = .next t → t.rom = s.rom ∧ t.params = s.params

/-! ### The host commands -/

/-- INIT completes in every state: nothing changes unless LIFE = Unbound; there it requests the clock, asks for the
bus, and either sets up the pins or records the failure (40_host_commands R102, R103). -/
def Obligations.InitCompletesWithItsEffect : Prop :=
  ∀ s : State,
    (s.life ≠ .unbound → exec .init s = .next s) ∧
    (s.life = .unbound → s.busAnswer = true →
      exec .init s = .next { s with
        auxclkOn := true, busAcq := true, csN := true, rstN := true, oe := true, fsm := .idle, life := .ready,
        env := s.takeBusAnswer.env,
        trace := s.trace ++ [.auxClock s.params.auxClkHz, .busOpen s.params.busHz .mode0 true, .pinSetup] }) ∧
    (s.life = .unbound → s.busAnswer = false →
      exec .init s = .next { s with
        auxclkOn := true, life := .bringUpFailed, env := s.takeBusAnswer.env,
        trace := s.trace ++ [.auxClock s.params.auxClkHz, .busOpen s.params.busHz .mode0 false] })

/-- A failed bring-up can be left only by block reset, and INIT then changes and emits nothing
(40_host_commands R104). -/
def Obligations.FailedBringUpIsLeftOnlyByBlockReset : Prop :=
  ∀ s : State, s.life = .bringUpFailed →
    exec .init s = .next s ∧
    ∀ t : State, ¬ ResetPending s → step s = .next t → t.life = .bringUpFailed

/-- CONFIGURE completes in every state: ignored unless LIFE = Ready; an empty and an oversized input are rejected with
no hardware transaction; every other length starts a session (40_host_commands R107 to R110). -/
def Obligations.ConfigureCompletesWithItsEffect : Prop :=
  ∀ s : State,
    (s.life ≠ .ready → exec .configure s = .next s) ∧
    (s.life = .ready → s.lenIn.toNat = 0 →
      exec .configure s = .next { s with
        fsm := .failed, outcome := .emptyInput, outcomeValid := true, failPhase := .idle, offset := 0#16,
        polls := 0#16, frameLen := 0#16, trace := s.trace ++ [.finish .emptyInput] }) ∧
    (s.life = .ready → 65535 < s.lenIn.toNat →
      exec .configure s = .next { s with
        fsm := .failed, outcome := .oversizedInput, outcomeValid := true, failPhase := .idle, offset := 0#16,
        polls := 0#16, frameLen := 0#16, trace := s.trace ++ [.finish .oversizedInput] }) ∧
    (s.life = .ready → 1 ≤ s.lenIn.toNat → s.lenIn.toNat ≤ 65535 →
      exec .configure s = .next { s with
        fsm := .resetting, outcome := .done, outcomeValid := false, failPhase := .idle, offset := 0#16,
        polls := 0#16, frameLen := BitVec.ofNat 16 s.lenIn.toNat, upc := 0#4, run := true })

/-- CONFIGURE reads nothing of an earlier session: two states that agree on LEN_IN, whatever else differs, leave it
with the same session registers and the same new events (40_host_commands R107, R111). -/
def Obligations.ConfigureForgetsEarlierSessions : Prop :=
  ∀ s s' t t' : State, s.life = .ready → s'.life = .ready → s.run = s'.run → s.lenIn = s'.lenIn →
    exec .configure s = .next t → exec .configure s' = .next t' →
    t.fsm = t'.fsm ∧ t.run = t'.run ∧ t.frameLen = t'.frameLen ∧ t.offset = t'.offset ∧ t.polls = t'.polls ∧
    t.outcome = t'.outcome ∧ t.outcomeValid = t'.outcomeValid ∧ t.failPhase = t'.failPhase ∧
    (t.run = true → s.run = false → t.upc = t'.upc) ∧
    ∃ events, Emitted s t events ∧ Emitted s' t' events

/-! ### The micro-operations -/

/-- SETPIN writes FSM and the named latch, emits its event and advances UPC, and nothing else (41_sequencer R122,
R125). -/
def Obligations.SetpinCompletesWithItsEffect : Prop :=
  ∀ (phase : Fsm) (level : Level) (s : State),
    exec (.setpin phase .csN level) s = .next { s with
      fsm := phase, csN := level, upc := s.upc + 1#4, trace := s.trace ++ [.setPin .csN level] } ∧
    exec (.setpin phase .rstN level) s = .next { s with
      fsm := phase, rstN := level, upc := s.upc + 1#4, trace := s.trace ++ [.setPin .rstN level] }

/-- DELAY writes FSM, emits its event and advances UPC, and nothing else (41_sequencer R122, R127; what the event
means in time is TimingOk's). -/
def Obligations.DelayCompletesWithItsEffect : Prop :=
  ∀ (phase : Fsm) (t : BitVec 24) (s : State),
    exec (.delay phase t) s = .next { s with
      fsm := phase, upc := s.upc + 1#4, trace := s.trace ++ [.delay t.toNat] }

/-- XFERC with a legal count makes one exchange of `count` copies of the fill byte; on success it advances, on failure
it records the phase and goes to address 13 (42_framer R141, 60_exceptions R203). -/
def Obligations.XfercCompletesWithItsEffect : Prop :=
  ∀ (phase : Fsm) (fill : Byte) (count : BitVec 16) (s : State), 1 ≤ count.toNat →
    (s.xferAnswer = true →
      exec (.xferc phase fill count) s = .next { s with
        fsm := phase, upc := s.upc + 1#4, env := s.takeXferAnswer.env,
        trace := s.trace ++ [.xfer (List.replicate count.toNat fill) true] }) ∧
    (s.xferAnswer = false →
      exec (.xferc phase fill count) s = .next { s with
        fsm := phase, upc := 13#4, failPhase := phase, env := s.takeXferAnswer.env,
        trace := s.trace ++ [.xfer (List.replicate count.toNat fill) false] })

/-- XFERI with OFFSET < FRAME_LEN sends the next min(P_CHUNK, FRAME_LEN - OFFSET) image bytes in one exchange; on
success OFFSET counts them and UPC advances exactly when the image is sent; on failure OFFSET is unchanged, the phase
is recorded and UPC is 13 (42_framer R143). -/
def Obligations.XferiCompletesWithItsEffect : Prop :=
  ∀ (phase : Fsm) (s : State), s.offset.toNat < s.frameLen.toNat →
    let k := min s.params.chunk.toNat (s.frameLen.toNat - s.offset.toNat)
    let tx := imageSlice s s.offset.toNat (s.offset.toNat + k)
    (s.xferAnswer = true →
      exec (.xferi phase) s = .next { s with
        fsm := phase, offset := BitVec.ofNat 16 (s.offset.toNat + k),
        upc := if s.offset.toNat + k = s.frameLen.toNat then s.upc + 1#4 else s.upc,
        env := s.takeXferAnswer.env, trace := s.trace ++ [.xfer tx true] }) ∧
    (s.xferAnswer = false →
      exec (.xferi phase) s = .next { s with
        fsm := phase, upc := 13#4, failPhase := phase, env := s.takeXferAnswer.env,
        trace := s.trace ++ [.xfer tx false] })

/-- POLL takes no sample when the budget is used up; otherwise one sample, counted, tested first for success, then for
exhaustion, and else followed by the wait (43_poller R160). -/
def Obligations.PollCompletesWithItsEffect : Prop :=
  ∀ (phase : Fsm) (s : State),
    (s.pollBudget.toNat ≤ s.polls.toNat →
      exec (.poll phase) s = .next { s with fsm := phase, failPhase := phase, upc := 15#4 }) ∧
    (s.polls.toNat < s.pollBudget.toNat → s.doneSample = s.params.doneActive →
      exec (.poll phase) s = .next { s with
        fsm := phase, upc := s.upc + 1#4, doneLast := s.doneSample, polls := BitVec.ofNat 16 (s.polls.toNat + 1),
        env := s.takeDoneSample.env, trace := s.trace ++ [.sample s.doneSample] }) ∧
    (s.doneSample ≠ s.params.doneActive → s.polls.toNat + 1 = s.pollBudget.toNat →
      exec (.poll phase) s = .next { s with
        fsm := phase, upc := 15#4, failPhase := phase, doneLast := s.doneSample,
        polls := BitVec.ofNat 16 (s.polls.toNat + 1), env := s.takeDoneSample.env,
        trace := s.trace ++ [.sample s.doneSample] }) ∧
    (s.doneSample ≠ s.params.doneActive → s.polls.toNat + 1 < s.pollBudget.toNat →
      exec (.poll phase) s = .next { s with
        fsm := phase, doneLast := s.doneSample, polls := BitVec.ofNat 16 (s.polls.toNat + 1),
        env := s.takeDoneSample.env,
        trace := s.trace ++ [.sample s.doneSample, .wait s.params.pollIntervalUs] })

/-- END writes FSM, the outcome and its valid bit, clears RUN, emits Finish and leaves UPC (43_poller R166). -/
def Obligations.EndCompletesWithItsEffect : Prop :=
  ∀ (phase : Fsm) (code : SessionOutcome) (s : State),
    exec (.endOp phase code) s = .next { s with
      fsm := phase, outcome := code, outcomeValid := true, run := false, trace := s.trace ++ [.finish code] }

/-- The term XFERC with count 0, which the decoder never yields, faults with the address and the word its fields would
make. That is the model's choice (log entry 20, DEDUCED), made so that the term stops as 30_encoding R78 has that word
stop. -/
def Obligations.XfercOfZeroBytesFaults : Prop :=
  ∀ (phase : Fsm) (fill : Byte) (s : State),
    exec (.xferc phase fill 0#16) s = .fault (.illegalMicroOp s.upc (encode (.xferc phase fill 0#16)))

/-- No instruction stores to the image buffer or changes what the host has set up: every image byte reads as before,
and LEN_IN, POLL_BUDGET and what lies outside the block stay (10_state R26, R30, 20_memory R52). -/
def Obligations.InstructionsLeaveImageAndHostRegisters : Prop :=
  ∀ (i : Instr) (s t : State), exec i s = .next t →
    (∀ a : Nat, t.imgRead a = s.imgRead a) ∧ t.img = s.img ∧ t.imgEpoch = s.imgEpoch ∧
    t.lenIn = s.lenIn ∧ t.pollBudget = s.pollBudget ∧ t.rom = s.rom ∧ t.params = s.params ∧
    t.inputs = s.inputs ∧ t.hostReads = s.hostReads

/-- Each register changes only by the operations its rule names as writers (10_state R22, R24, R25, R27 to R29, R31 to
R34): UPC is left by INIT, by END, and by a CONFIGURE that is ignored or rejects its input. FSM is the one register every
instruction may write (R23); LEN_IN, POLL_BUDGET and IMG, which none writes, are in
InstructionsLeaveImageAndHostRegisters. -/
def Obligations.RegistersHaveOnlyTheirWriters : Prop :=
  ∀ (i : Instr) (s t : State), exec i s = .next t →
    (i ≠ .init → t.life = s.life ∧ t.oe = s.oe ∧ t.auxclkOn = s.auxclkOn ∧ t.busAcq = s.busAcq) ∧
    (i ≠ .init → (∀ phase level, i ≠ .setpin phase .csN level) → t.csN = s.csN) ∧
    (i ≠ .init → (∀ phase level, i ≠ .setpin phase .rstN level) → t.rstN = s.rstN) ∧
    (i ≠ .configure → (∀ phase code, i ≠ .endOp phase code) →
      t.run = s.run ∧ t.outcome = s.outcome ∧ t.outcomeValid = s.outcomeValid) ∧
    (i ≠ .configure → t.frameLen = s.frameLen) ∧
    (i ≠ .configure → (∀ phase, i ≠ .xferi phase) → t.offset = s.offset) ∧
    (i ≠ .configure → (∀ phase, i ≠ .poll phase) → t.polls = s.polls) ∧
    ((∀ phase, i ≠ .poll phase) → t.doneLast = s.doneLast) ∧
    (i ≠ .configure → (∀ phase fill count, i ≠ .xferc phase fill count) → (∀ phase, i ≠ .xferi phase) →
      (∀ phase, i ≠ .poll phase) → t.failPhase = s.failPhase) ∧
    (i = .init → t.upc = s.upc) ∧
    ((∃ phase code, i = .endOp phase code) → t.upc = s.upc) ∧
    (i = .configure → s.life ≠ .ready ∨ s.lenIn.toNat = 0 ∨ 65535 < s.lenIn.toNat → t.upc = s.upc)

/-! ### The step -/

/-- With RUN = 1 and the block's turn, the word at UPC is decoded and run (41_sequencer R121). -/
def Obligations.StepRunsTheMicroWordAtUpc : Prop :=
  ∀ (s : State) (i : Instr), s.run = true → BlockHasTurn s → decodeMicro s.fetch = .ok i →
    step s = exec i { s with inputs := s.inputs.tail }

/-- With RUN = 0, a 32-bit write of a command word to CMD runs the command (40_host_commands R100). -/
def Obligations.StepRunsTheCommandWritten : Prop :=
  ∀ (s : State) (c : Word) (i : Instr) (rest : List Input), s.run = false →
    s.inputs = .access (.write .w32 0#17 c) :: rest → decodeCommand c = .ok i →
    step s = exec i { s with inputs := rest }

/-- With RUN = 0 no sequencer step is taken: the block's turn changes no state and emits no event (41_sequencer R121,
60_exceptions R217; that such a turn is a step at all is the model's choice, log entry 4). -/
def Obligations.IdleBlockKeepsItsState : Prop :=
  ∀ s : State, s.run = false → BlockHasTurn s → step s = .next { s with inputs := s.inputs.tail }

/-- A word placed for the next fetch is what the next step runs: a legal micro-word in the ROM at UPC, a command word
as the host's next access (log entry 6). -/
def Obligations.PlacedWordRunsNext : Prop :=
  ∀ (s : State) (w : Nat) (i : Instr), decodeTableWord 32 w = some i →
    step (s.withFetchWord 32 w) = exec i (s.withFetchWord 32 w).popInput

/-! ### Reset -/

/-- State.reset holds the values of 10_state R45's table; that the unspecified image is one in which no byte is written,
each of which reads as a free value, is the model's choice (log entry 1). -/
def Obligations.ResetLeavesTheListedValues : Prop :=
  State.reset.life = .unbound ∧ State.reset.fsm = .idle ∧ State.reset.run = false ∧ State.reset.upc = 0#4 ∧
  State.reset.lenIn = 0#32 ∧ State.reset.frameLen = 0#16 ∧ State.reset.offset = 0#16 ∧ State.reset.polls = 0#16 ∧
  State.reset.pollBudget = 1000#16 ∧ State.reset.outcome.code = 0#3 ∧ State.reset.outcomeValid = false ∧
  State.reset.failPhase = .idle ∧ State.reset.csN = true ∧ State.reset.rstN = true ∧ State.reset.oe = false ∧
  State.reset.doneLast = false ∧ State.reset.auxclkOn = false ∧ State.reset.busAcq = false ∧
  State.reset.trace = [] ∧ (∀ i : Nat, Memory.lookup State.reset.img i = none) ∧
  State.reset.statusWord = 0x00000000#32 ∧ State.reset.pinsWord = 0x00000003#32

/-- A block reset, pending in any state, gives every state element R45's value and aborts a running session
(70_reset_and_hazards R230); that the unspecified image is one in which no byte is written is the model's choice
(log entry 1). -/
def Obligations.BlockResetRestoresTheListedValues : Prop :=
  ∀ (s : State) (rest : List Input), s.inputs = .blockReset :: rest →
    ∃ t : State, step s = .next t ∧
      t.life = .unbound ∧ t.fsm = .idle ∧ t.run = false ∧ t.upc = 0#4 ∧ t.lenIn = 0#32 ∧ t.frameLen = 0#16 ∧
      t.offset = 0#16 ∧ t.polls = 0#16 ∧ t.pollBudget = 1000#16 ∧ t.outcome.code = 0#3 ∧ t.outcomeValid = false ∧
      t.failPhase = .idle ∧ t.csN = true ∧ t.rstN = true ∧ t.oe = false ∧ t.doneLast = false ∧
      t.auxclkOn = false ∧ t.busAcq = false ∧ t.trace = [] ∧ (∀ a, Memory.lookup t.img a = none) ∧
      t.rom = s.rom ∧ t.params = s.params ∧ t.inputs = rest

/-- The invariant holds after power-on, for every instance. -/
def Obligations.PowerOnMeetsTheInvariant : Prop :=
  ∀ p : Params, Inv (State.powerOn p)

/-! ### Host accesses -/

/-- STATUS has the layout of 10_state R37, reserved bits 0; a 32-bit read at its address returns it, a write there is
ignored, and after reset it is 0. -/
def Obligations.StatusHasItsLayout : Prop :=
  State.reset.statusWord = 0x00000000#32 ∧
  ∀ s : State,
    (s.statusWord.extractLsb' 0 3 = s.fsm.code ∧ s.statusWord[3] = s.run ∧
      s.statusWord.extractLsb' 4 2 = s.life.code ∧ s.statusWord[6] = s.outcomeValid ∧
      s.statusWord[7] = false ∧ s.statusWord.extractLsb' 8 3 = s.outcome.code ∧
      s.statusWord[11] = false ∧ s.statusWord.extractLsb' 12 3 = s.failPhase.code ∧
      s.statusWord[15] = false ∧ s.statusWord.extractLsb' 16 4 = s.upc ∧
      s.statusWord.extractLsb' 20 12 = 0#12) ∧
    s.readValue .w32 0x00004#17 = s.statusWord ∧
    ∀ (value : Word) (rest : List Input), s.inputs = .access (.write .w32 0x00004#17 value) :: rest →
      step s = .next { s with inputs := rest }

/-- PINS has the layout of 10_state R38, reserved bits 0; a 32-bit read at its address returns it without a sample or an
event, a write there is ignored, and after reset it is 3. -/
def Obligations.PinsHasItsLayout : Prop :=
  State.reset.pinsWord = 0x00000003#32 ∧
  ∀ s : State,
    (s.pinsWord[0] = s.csN ∧ s.pinsWord[1] = s.rstN ∧ s.pinsWord[2] = s.doneLast ∧
      s.pinsWord[3] = s.oe ∧ s.pinsWord[4] = s.auxclkOn ∧ s.pinsWord[5] = s.busAcq ∧
      s.pinsWord.extractLsb' 6 26 = 0#26) ∧
    ∀ rest : List Input,
      (s.inputs = .access (.read .w32 0x00020#17) :: rest →
        step s = .next { s with inputs := rest, hostReads := s.hostReads ++ [s.pinsWord] }) ∧
      ∀ value : Word, s.inputs = .access (.write .w32 0x00020#17 value) :: rest →
        step s = .next { s with inputs := rest }

/-- What an aligned 32-bit read of each register address returns, and an 8-bit read of each address of the image window,
as numbers (20_memory R51, R52, 10_state R37 to R41). -/
def Obligations.RegisterReadsReturnTheMap : Prop :=
  ∀ s : State,
    s.readValue .w32 0x00000#17 = 0#32 ∧
    s.readValue .w32 0x00004#17 = s.statusWord ∧
    s.readValue .w32 0x00008#17 = s.lenIn ∧
    (s.readValue .w32 0x0000C#17).toNat = s.frameLen.toNat ∧
    (s.readValue .w32 0x00010#17).toNat = s.offset.toNat ∧
    (s.readValue .w32 0x00014#17).toNat = s.polls.toNat ∧
    (s.readValue .w32 0x00018#17).toNat = s.pollBudget.toNat ∧
    (s.readValue .w32 0x0001C#17).toNat = s.params.flushBytes.toNat * 65536 + s.params.chunk.toNat ∧
    s.readValue .w32 0x00020#17 = s.pinsWord ∧
    ∀ i : Nat, i ≤ 65535 → (s.readValue .w8 (BitVec.ofNat 17 (0x10000 + i))).toNat = (s.imgRead i).toNat

/-- A host read is served at any time, returns its value to the host and has no side effect on the block
(20_memory R55, R56). -/
def Obligations.HostReadsHaveNoSideEffect : Prop :=
  ∀ (s : State) (width : Width) (address : BitVec 17) (rest : List Input),
    s.inputs = .access (.read width address) :: rest →
    step s = .next { s with inputs := rest, hostReads := s.hostReads ++ [s.readValue width address] }

/-- An access that 20_memory R53 does not allow, or to the unmapped range, returns 0 if it is a read and is ignored if it
is a write; it changes no state of the block, emits nothing and does not fault (R54). -/
def Obligations.AccessesOutsideTheRulesAreIgnored : Prop :=
  ∀ (s : State) (width : Width) (address : BitVec 17) (value : Word) (rest : List Input),
    OutsideAccessRules width address.toNat →
    (s.inputs = .access (.read width address) :: rest →
      step s = .next { s with inputs := rest, hostReads := s.hostReads ++ [0#32] }) ∧
    (s.inputs = .access (.write width address value) :: rest → step s = .next { s with inputs := rest })

/-- While RUN = 1 every host write, at any address and of any width, is ignored (20_memory R55). -/
def Obligations.WritesAreIgnoredWhileRunning : Prop :=
  ∀ (s : State) (width : Width) (address : BitVec 17) (value : Word) (rest : List Input),
    s.run = true → s.inputs = .access (.write width address value) :: rest →
    step s = .next { s with inputs := rest }

/-- A 32-bit write to LEN_IN with RUN = 0 stores the word, starts nothing and checks nothing; with RUN = 1 it is
ignored; after the write a read returns what LEN_IN then holds (40_host_commands R112). -/
def Obligations.LenInWriteStoresTheWord : Prop :=
  ∀ (s : State) (value : Word) (rest : List Input),
    s.inputs = .access (.write .w32 0x00008#17 value) :: rest →
    ∃ t : State, step s = .next t ∧
      t = (if s.run then { s with inputs := rest } else { s with inputs := rest, lenIn := value }) ∧
      t.readValue .w32 0x00008#17 = if s.run then s.lenIn else value

/-- A 32-bit write to POLL_BUDGET with RUN = 0 stores its low 16 bits; with RUN = 1 it is ignored; after the write a read
returns what POLL_BUDGET then holds, zero-extended (40_host_commands R113). -/
def Obligations.PollBudgetWriteStoresTheLowHalf : Prop :=
  ∀ (s : State) (value : Word) (rest : List Input),
    s.inputs = .access (.write .w32 0x00018#17 value) :: rest →
    ∃ t : State, step s = .next t ∧
      t = (if s.run then { s with inputs := rest }
        else { s with inputs := rest, pollBudget := BitVec.ofNat 16 (value.toNat % 65536) }) ∧
      (t.readValue .w32 0x00018#17).toNat = if s.run then s.pollBudget.toNat else value.toNat % 65536

/-- A write to a read-only register, or of a reserved word to CMD, is ignored in every state (10_state R37 to R40,
30_encoding R73). -/
def Obligations.ReservedAndReadOnlyWritesAreIgnored : Prop :=
  ∀ (s : State) (address : BitVec 17) (value : Word) (rest : List Input),
    s.inputs = .access (.write .w32 address value) :: rest →
    (address.toNat ∈ [0x04, 0x0C, 0x10, 0x14, 0x1C, 0x20] ∨
      (address.toNat = 0 ∧ value.toNat ≠ 1 ∧ value.toNat ≠ 2)) →
    step s = .next { s with inputs := rest }

/-- A byte write in the image window with RUN = 0 stores at index `address - 0x10000` and leaves every other byte and
every other state element; the byte is read back at that address (20_memory R52). -/
def Obligations.ImageWriteStoresOneByte : Prop :=
  ∀ (s : State) (address : BitVec 17) (byte : Byte) (rest : List Input),
    s.run = false → 0x10000 ≤ address.toNat →
    s.inputs = .access (.write .w8 address (byte.setWidth 32)) :: rest →
    ∃ t : State, step s = .next t ∧
      t = { s with inputs := rest, img := t.img } ∧
      t.imgRead (address.toNat - 0x10000) = byte ∧
      (∀ a : Nat, a ≠ address.toNat - 0x10000 → t.imgRead a = s.imgRead a) ∧
      t.readValue .w8 address = byte.setWidth 32

/-! ### The lines and the wire -/

/-- While no session runs, CS_N and RST_N are driven high once INIT has succeeded, and are not driven before
(70_reset_and_hazards R231, R246, 10_state R33, R44 (c), (d)). -/
def Obligations.RestingPinsAreDrivenHighOrNotAtAll : Prop :=
  ∀ (s : State) (pin : OutPin), Inv s → s.run = false →
    (s.life = .ready → s.pinDriven pin = some true) ∧ (s.life ≠ .ready → s.pinDriven pin = none)

/-- The bytes of an exchange go out in list order, each byte most significant bit first if P_MSB_FIRST and least
significant bit first if not (20_memory R57, R58). -/
def Obligations.BytesGoOutInOrderBitByBit : Prop :=
  ∀ (p : Params) (tx : List Byte),
    (wireBits p tx).length = 8 * tx.length ∧
    ∀ (i j : Nat) (b : Byte), tx[i]? = some b → j < 8 →
      (wireBits p tx)[8 * i + j]? = some (b.getLsbD (if p.msbFirst then 7 - j else j))

/-! ### Invariants over every step -/

/-- Every step keeps the invariant: a host access, a block reset, and each of the sixteen words of the ROM
(10_state R44). -/
def Obligations.EveryStepKeepsTheInvariant : Prop :=
  ∀ s t : State, Inv s → step s = .next t → Inv t

/-- A state that meets the invariant has a next state: no fault, no refusal, no hold (60_exceptions R206,
41_sequencer R121). Two parts are the model's choice: that a turn of the idle block is a step (log entry 4), and that an
exchange or a bus request never holds the block, because the Transport always returns (log entry 16). -/
def Obligations.NoFaultUnderTheInvariant : Prop :=
  ∀ s : State, Inv s → ∃ t : State, step s = .next t

/-- Every step, from any state, keeps the canonical form of the list that holds the image buffer. The list and its form
are the model's choice (log entry 1, DESIGN CHOICE); the spec gives the buffer, not its representation. -/
def Obligations.EveryStepKeepsTheMemoryForm : Prop :=
  ∀ s t : State, Memory.wf s.img = true → step s = .next t → Memory.wf t.img = true

/-- While a session runs no step but a block reset changes an image byte (20_memory R63). -/
def Obligations.ImageIsStableDuringASession : Prop :=
  ∀ s t : State, s.run = true → ¬ ResetPending s → step s = .next t →
    (∀ a : Nat, t.imgRead a = s.imgRead a) ∧ t.pollBudget = s.pollBudget ∧ t.frameLen = s.frameLen

/-- Nothing but the session's own END or a block reset stops a running session (41_sequencer R130). -/
def Obligations.OnlyEndStopsARunningSession : Prop :=
  ∀ s t : State, s.run = true → ¬ ResetPending s → step s = .next t → t.run = false →
    BlockHasTurn s ∧ ∃ phase code, decodeMicro s.fetch = .ok (.endOp phase code)

/-- Priming and flush exchanges are made with CS_N = 1, streaming exchanges with CS_N = 0, always with RST_N = 1, and
no exchange is made in any other phase or with a length outside 1..P_XFER_MAX (41_sequencer R129, 20_memory R61). -/
def Obligations.ChipSelectFramesTheExchanges : Prop :=
  ∀ (s t : State) (tx : List Byte) (ok : Bool), Inv s → step s = .next t → Emitted s t [.xfer tx ok] →
    s.rstN = true ∧ 1 ≤ tx.length ∧ tx.length ≤ s.params.xferMax ∧
    ((t.fsm = .priming ∧ s.csN = true) ∨ (t.fsm = .streaming ∧ s.csN = false) ∨ (t.fsm = .flushing ∧ s.csN = true))

/-- While a session runs FSM moves only along the edges of the protocol machine (41_sequencer R124, 90_conflicts
C2). -/
def Obligations.PhasesFollowTheProtocol : Prop :=
  ∀ s t : State, Inv s → s.run = true → ¬ ResetPending s → step s = .next t → PhaseEdge s.fsm t.fsm

/-- The step that ends a session leaves the report of 43_poller R168: the pins high, the outcome valid, and for each
outcome the phase, offset and polls the rule gives. -/
def Obligations.EndedSessionsReportAsListed : Prop :=
  ∀ s t : State, Inv s → s.run = true → ¬ ResetPending s → step s = .next t → t.run = false →
    t.csN = true ∧ t.rstN = true ∧ t.outcomeValid = true ∧
    (t.outcome = .done ∨ t.outcome = .transportFailure ∨ t.outcome = .completionTimeout) ∧
    (t.outcome = .done → t.fsm = .done ∧ t.failPhase = .idle ∧ t.offset = t.frameLen) ∧
    (t.outcome ≠ .done → t.fsm = .failed) ∧
    (t.outcome = .transportFailure →
      t.failPhase = .priming ∨ t.failPhase = .streaming ∨ t.failPhase = .flushing) ∧
    (t.outcome = .completionTimeout →
      t.failPhase = .awaitingCompletion ∧ t.offset = t.frameLen ∧ t.polls = t.pollBudget)

/-! ### Sessions -/

/-- The first six steps of every accepted session are the Resetting sequence, reset released before chip-select
(41_sequencer R128). -/
def Obligations.SessionsBeginWithTheResettingSequence : Prop :=
  ∀ s : State, Inv s → SessionBegins s →
    ∃ t : State, RunsTo 6 s t ∧ t.run = true ∧ t.upc = 6#4 ∧ Emitted s t (resetEvents s.params)

/-- Every accepted session, left to itself, reaches its END within the bound of 41_sequencer R131, one step more if
an exchange fails. Left to itself means that no host input is pending; it rests on the Transport always returning (70_reset_and_hazards R249, log entry 16). -/
def Obligations.SessionsEndWithinTheBound : Prop :=
  ∀ s : State, Inv s → SessionBegins s →
    ∃ (n : Nat) (t : State), RunsTo n s t ∧ t.run = false ∧ t.outcomeValid = true ∧
      (t.outcome = .transportFailure → n ≤ sessionBound s + 1) ∧
      (t.outcome ≠ .transportFailure → n ≤ sessionBound s)

/-- A session left to itself (no host input pending) that ends with Done has sent, in order: the Resetting sequence, the
priming byte, the whole image in ceil(L / C) chunks of at most C bytes with CS_N low, and the flush bytes with CS_N high;
it has then polled, every event of which is a sample or a wait, the last one the one active sample, and finished
(42_framer R144, R145, 43_poller R162). -/
def Obligations.DoneSessionsStreamTheImageWhole : Prop :=
  ∀ (s t : State) (n : Nat), Inv s → SessionBegins s → RunsTo n s t → t.run = false → t.outcome = .done →
    ∃ chunks : List Event,
      Emitted s t (resetEvents s.params ++ [.xfer [0x00#8] true, .setPin .csN false] ++ chunks ++
        [.setPin .csN true, .xfer (List.replicate s.params.flushBytes.toNat s.params.flushFill) true] ++
        pollEvents s.params (t.polls.toNat - 1) s.params.doneActive ++ [.finish .done]) ∧
      1 ≤ t.polls.toNat ∧
      busBytes chunks = imageSlice s 0 s.frameLen.toNat ∧
      chunks.length = chunkCount s ∧
      (∀ e ∈ chunks, ∃ tx, e = .xfer tx true ∧ 1 ≤ tx.length ∧ tx.length ≤ s.params.chunk.toNat)

/-- A session left to itself (no host input pending) that fails on a streaming chunk has handed over the image up to and with that chunk, counts in OFFSET
only the chunks before it, and ends with CS_N released and Finish, no flush and no sample (42_framer R146). -/
def Obligations.FailedChunkEndsTheSession : Prop :=
  ∀ (s t : State) (n : Nat), Inv s → SessionBegins s → RunsTo n s t → t.run = false →
    t.outcome = .transportFailure → t.failPhase = .streaming →
    ∃ (chunks : List Event) (last : List Byte),
      Emitted s t (resetEvents s.params ++ [.xfer [0x00#8] true, .setPin .csN false] ++ chunks ++
        [.xfer last false, .setPin .csN true, .finish .transportFailure]) ∧
      (∀ e ∈ chunks, ∃ tx, e = .xfer tx true ∧ tx.length = s.params.chunk.toNat) ∧
      t.offset.toNat = chunks.length * s.params.chunk.toNat ∧
      busBytes chunks ++ last =
        imageSlice s 0 (min ((chunks.length + 1) * s.params.chunk.toNat) s.frameLen.toNat)

/-- The poller, in a session left to itself (no host input pending): POLLS is the number of samples, never above the
budget. A session that polled did so as the last thing before Finish: samples and waits alternate, a sample first and
last, each wait is of P_POLL_INTERVAL_US, every sample but the last is inactive, and the last one is active exactly for
Done; a timeout comes after exactly POLL_BUDGET inactive samples, with none and no wait for a budget of 0. A session whose
exchange failed takes no sample and no wait (43_poller R160 to R165). -/
def Obligations.PollingStopsAtTheFirstActiveSample : Prop :=
  ∀ (s t : State) (n : Nat), Inv s → SessionBegins s → RunsTo n s t → t.run = false →
    t.polls.toNat ≤ s.pollBudget.toNat ∧
    ∃ before polling : List Event,
      Emitted s t (before ++ polling ++ [.finish t.outcome]) ∧
      sampleLevels before = [] ∧ waitCount before = 0 ∧ (sampleLevels polling).length = t.polls.toNat ∧
      (t.outcome = .done →
        1 ≤ t.polls.toNat ∧ polling = pollEvents s.params (t.polls.toNat - 1) s.params.doneActive) ∧
      (t.outcome = .completionTimeout → t.polls = s.pollBudget ∧
        polling = if s.pollBudget = 0#16 then []
          else pollEvents s.params (s.pollBudget.toNat - 1) (!s.params.doneActive)) ∧
      (t.outcome = .transportFailure → polling = [])

/-- With POLL_BUDGET = 0 the first POLL takes no sample and emits nothing, and the session goes straight to
CompletionTimeout with POLLS = 0 and FAIL_PHASE = 5 (43_poller R161). -/
def Obligations.ZeroBudgetTimesOutUnsampled : Prop :=
  ∀ s : State, Inv s → s.run = true → s.inputs = [] → s.upc = 11#4 → s.pollBudget = 0#16 →
    ∃ t : State, RunsTo 2 s t ∧ t.run = false ∧ t.outcome = .completionTimeout ∧ t.polls = 0#16 ∧
      t.failPhase.code = 5#3 ∧ t.doneLast = s.doneLast ∧ Emitted s t [.finish .completionTimeout]

/-- The failure path takes two more steps: address 13 drives CS_N high and sets FSM = Failed, address 14 writes the
outcome and clears RUN (60_exceptions R203). -/
def Obligations.FailurePathReleasesChipSelect : Prop :=
  ∀ s : State, Inv s → s.run = true → s.inputs = [] → s.upc = 13#4 →
    ∃ u t : State, step s = .next u ∧ u.csN = true ∧ u.fsm = .failed ∧ u.run = true ∧
      step u = .next t ∧ t.run = false ∧ t.outcome = .transportFailure ∧ t.csN = true ∧
      t.failPhase = s.failPhase ∧ t.offset = s.offset ∧
      Emitted s t [.setPin .csN true, .finish .transportFailure]

/-- In every timing that keeps the bounds of 70_reset_and_hazards R241, the Resetting sequence of a session holds
RST_N low for P_T_RESET_US and high for P_T_REINIT_US before CS_N is released (R240). -/
def Obligations.ResetPulseMeetsItsTimes : Prop :=
  ∀ (s t : State) (timed : List Stamped) (tick : Nat) (events : List Event), Inv s → SessionBegins s →
    RunsTo 6 s t → Emitted s t events → timed.map Stamped.event = events → TimingOk tick s.params.busHz timed →
    ∃ a0 low d1 high d2 release : Stamped, timed = [a0, low, d1, high, d2, release] ∧
      low.event = .setPin .rstN false ∧ high.event = .setPin .rstN true ∧ release.event = .setPin .csN true ∧
      low.stop + s.params.tResetUs.toNat * tick ≤ high.start ∧ 200 * tick ≤ high.start - low.stop ∧
      high.stop + s.params.tReinitUs.toNat * tick ≤ release.start ∧ 1200 * tick ≤ release.start - high.stop

/-- What a session left to itself (no host input pending) does depends on no image byte at or above FRAME_LEN: two states that differ only there run in step
and emit the same events (20_memory R52, 93_implementation_defined U5). -/
def Obligations.BytesBeyondTheFrameAreNeverRead : Prop :=
  ∀ (s s' t : State) (n : Nat), Inv s → s.run = true → s.inputs = [] →
    s' = { s with img := s'.img, imgEpoch := s'.imgEpoch } →
    (∀ a : Nat, a < s.frameLen.toNat → s'.imgRead a = s.imgRead a) →
    RunsTo n s t → ∃ t' : State, RunsTo n s' t' ∧ t' = { t with img := t'.img, imgEpoch := t'.imgEpoch }

/-- After any finished or rejected session a CONFIGURE with a legal length starts the next one, with the full
Resetting sequence (60_exceptions R218, 70_reset_and_hazards R234). -/
def Obligations.EverySessionCanBeFollowedByAnother : Prop :=
  ∀ s : State, Inv s → s.run = false → s.life = .ready →
    s.inputs = [.access (.write .w32 0#17 (encode .configure))] →
    1 ≤ s.lenIn.toNat → s.lenIn.toNat ≤ 65535 →
    ∃ t : State, RunsTo 7 s t ∧ t.run = true ∧ t.life = .ready ∧ t.frameLen.toNat = s.lenIn.toNat ∧
      Emitted s t (resetEvents s.params)

/-- The report of a session stays: with RUN = 0 and a report held, a step that is neither a block reset nor a CONFIGURE
written to CMD changes nothing but what the host may write (LEN_IN, POLL_BUDGET, an image byte), the inputs and what the
host has read (43_poller R168's last sentence, 10_state R23). That a rejected CONFIGURE also ends the report is log
entry 25; an idle turn as a step is log entry 4. -/
def Obligations.ReportStaysUntilTheNextConfigure : Prop :=
  ∀ s t : State, Inv s → s.run = false → s.outcomeValid = true → ¬ ResetPending s →
    (∀ rest : List Input, s.inputs ≠ .access (.write .w32 0#17 (encode .configure)) :: rest) →
    step s = .next t →
    t = { s with inputs := t.inputs, lenIn := t.lenIn, pollBudget := t.pollBudget, img := t.img,
                 hostReads := t.hostReads }

/-- In every timing that keeps the bounds of 70_reset_and_hazards R241, the sample after an inactive one that did not end
the polling begins no earlier than P_POLL_INTERVAL_US after it (43_poller R164). -/
def Obligations.PollIntervalIsKeptBetweenSamples : Prop :=
  ∀ (s u t : State) (timed : List Stamped) (tick : Nat) (events : List Event), Inv s → s.run = true → s.inputs = [] →
    s.upc = 11#4 → step s = .next u → u.upc = 11#4 → step u = .next t →
    Emitted s t events → timed.map Stamped.event = events → TimingOk tick s.params.busHz timed →
    ∃ (first wait second : Stamped) (rest : List Stamped) (level : Level), timed = first :: wait :: second :: rest ∧
      first.event = .sample (!s.params.doneActive) ∧ wait.event = .wait s.params.pollIntervalUs ∧
      second.event = .sample level ∧ first.stop + s.params.pollIntervalUs * tick ≤ second.start
end

