-- ==== Sys2Proof/Laws/Decode.lean ====
section
/-! SUPPORT. The fields of a micro-word and the codes of its operands. -/

namespace Sys2Proof

@[simp] theorem Fsm.ofCode_code (f : Fsm) : Fsm.ofCode f.code = f := by
  cases f <;> rfl

@[simp] theorem Fsm.code_ofCode (c : BitVec 3) : (Fsm.ofCode c).code = c := by
  revert c; decide

@[simp] theorem OutPin.ofCode_code (p : OutPin) : OutPin.ofCode p.code = p := by
  cases p <;> rfl

@[simp] theorem OutPin.code_ofCode (b : Bool) : (OutPin.ofCode b).code = b := by
  cases b <;> rfl

@[simp] theorem SessionOutcome.ofCode_code (o : SessionOutcome) : SessionOutcome.ofCode? o.code = some o := by
  cases o <;> rfl

/-- UOP of a micro-word. -/
@[simp] theorem uopField_microWord (u : BitVec 4) (f : Fsm) (x : BitVec 24) : uopField (microWord u f x) = u := by
  ext i hi
  have h1 : f.code.getLsbD (28 + i - 25) = false := BitVec.getLsbD_of_ge _ _ (by omega)
  have h2 : x.getLsbD (28 + i) = false := BitVec.getLsbD_of_ge _ _ (by omega)
  simp [uopField, microWord, show 28 + i < 32 by omega, show ¬ 28 + i < 25 by omega, h1, h2,
    BitVec.getLsbD_eq_getElem hi]

/-- PHASE of a micro-word. -/
@[simp] theorem phaseField_microWord (u : BitVec 4) (f : Fsm) (x : BitVec 24) :
    phaseField (microWord u f x) = f.code := by
  ext i hi
  have h2 : x.getLsbD (25 + i) = false := BitVec.getLsbD_of_ge _ _ (by omega)
  simp [phaseField, microWord, show 25 + i < 32 by omega, show 25 + i < 28 by omega, hi, h2]

/-- OPERAND of a micro-word. -/
@[simp] theorem operandField_microWord (u : BitVec 4) (f : Fsm) (x : BitVec 24) :
    operandField (microWord u f x) = x := by
  ext i hi
  simp [operandField, microWord, show i < 32 by omega, show i < 28 by omega, show i < 25 by omega, hi]

/-- Bit 24 of a micro-word is zero. -/
@[simp] theorem bit24_microWord (u : BitVec 4) (f : Fsm) (x : BitVec 24) :
    (microWord u f x)[24] = false := by
  simp [microWord]

/-- XFERC's COUNT. -/
@[simp] theorem count_xfercOperand (fill : Byte) (count : BitVec 16) :
    (xfercOperand fill count).extractLsb' 0 16 = count := by
  ext i hi
  simp [xfercOperand, show i < 24 by omega, hi]

/-- XFERC's FILL. -/
@[simp] theorem fill_xfercOperand (fill : Byte) (count : BitVec 16) :
    (xfercOperand fill count).extractLsb' 16 8 = fill := by
  ext i hi
  simp [xfercOperand, show 16 + i < 24 by omega, hi]

/-- A DELAY word decodes. -/
theorem decodeMicro_delay (phase : Fsm) (t : BitVec 24) :
    decodeMicro (microWord 0x2#4 phase t) = .ok (.delay phase t) := by
  simp [decodeMicro]

/-- An XFERC word with a count decodes. -/
theorem decodeMicro_xferc (phase : Fsm) (fill : Byte) {count : BitVec 16} (h : count ≠ 0#16) :
    decodeMicro (microWord 0x3#4 phase (xfercOperand fill count)) = .ok (.xferc phase fill count) := by
  simp [decodeMicro, decodeXferc, h]

end Sys2Proof
end

