-- ==== Sys2Proof/Laws/Memory.lean ====
section
/-! SUPPORT. The image buffer: a byte written is read back, every other byte is as before, and every operation keeps the
canonical form. -/

namespace Sys2Proof.Machine

/-- A read after a write of the same index gives the byte written. -/
@[simp] theorem Memory.lookup_write_same (m : Memory) (a : Nat) (v : Byte) :
    Memory.lookup (Memory.write m a v) a = some v := by
  induction m with
  | nil => simp [Memory.write, Memory.lookup]
  | cons c rest ih =>
    obtain ⟨b, u⟩ := c
    simp only [Memory.write]
    split
    · simp [Memory.lookup]
    · split
      · simp [Memory.lookup]
      · simp [Memory.lookup, *]

/-- A write leaves every other index alone. -/
theorem Memory.lookup_write_other (m : Memory) {a c : Nat} (v : Byte) (h : c ≠ a) :
    Memory.lookup (Memory.write m a v) c = Memory.lookup m c := by
  induction m with
  | nil => simp [Memory.write, Memory.lookup, h]
  | cons d rest ih =>
    obtain ⟨b, u⟩ := d
    simp only [Memory.write]
    split
    · simp [Memory.lookup, h]
    · split
      · next hab => subst hab; simp [Memory.lookup, h]
      · simp [Memory.lookup, ih]

/-- A write at an index of the buffer, at or above the lower bound, keeps the form. -/
theorem Memory.wfFrom_write (m : Memory) {low a : Nat} (v : Byte) (hlow : low ≤ a) (ha : a < Config.imgBytes)
    (h : Memory.wfFrom low m = true) : Memory.wfFrom low (Memory.write m a v) = true := by
  induction m generalizing low with
  | nil => simp [Memory.write, Memory.wfFrom, hlow, ha]
  | cons d rest ih =>
    obtain ⟨b, u⟩ := d
    simp only [Memory.wfFrom, Bool.and_eq_true, decide_eq_true_eq] at h
    obtain ⟨⟨h1, h2⟩, h3⟩ := h
    simp only [Memory.write]
    split
    · next hab =>
      simp only [Memory.wfFrom, Bool.and_eq_true, decide_eq_true_eq]
      exact ⟨⟨hlow, ha⟩, ⟨by omega, h2⟩, h3⟩
    · split
      · next hab =>
        subst hab
        simp only [Memory.wfFrom, Bool.and_eq_true, decide_eq_true_eq]
        exact ⟨⟨hlow, ha⟩, h3⟩
      · simp only [Memory.wfFrom, Bool.and_eq_true, decide_eq_true_eq]
        exact ⟨⟨h1, h2⟩, ih (by omega) h3⟩

/-- The canonical form is kept by a write at any index of the buffer. -/
theorem Memory.wf_write {m : Memory} (i : BitVec 16) (v : Byte) (h : Memory.wf m = true) :
    Memory.wf (Memory.write m i.toNat v) = true :=
  Memory.wfFrom_write m v (Nat.zero_le _) i.isLt h

/-- The empty image is in canonical form. -/
@[simp] theorem Memory.wf_nil : Memory.wf [] = true := rfl

/-- `ImgRead` looks at the image alone. -/
theorem State.imgRead_congr {s t : State} (hm : t.img = s.img) (he : t.imgEpoch = s.imgEpoch) (i : Nat) :
    t.imgRead i = s.imgRead i := by
  simp only [State.imgRead, hm, he]

/-- A host byte write is read back. -/
@[simp] theorem State.imgRead_imgWrite_same (s : State) (i : BitVec 16) (v : Byte) :
    (s.imgWrite i v).imgRead i.toNat = v := by
  simp [State.imgRead, State.imgWrite]

/-- A host byte write leaves every other byte alone. -/
theorem State.imgRead_imgWrite_other (s : State) {i : BitVec 16} {c : Nat} (v : Byte) (h : c ≠ i.toNat) :
    (s.imgWrite i v).imgRead c = s.imgRead c := by
  simp [State.imgRead, State.imgWrite, Memory.lookup_write_other _ v h]

/-- `State.reset`'s image has the canonical form. -/
theorem reset_image_wf : Memory.wf State.reset.img = true := rfl

end Sys2Proof.Machine
end

