-- ==== Sys2Proof/Laws/State.lean ====
section
/-! SUPPORT. For each named update of the state, what each field holds afterwards: one lemma a field, true by `rfl`, so
that no proof unfolds a record update. -/

namespace Sys2Proof.Machine

/-! ### State.emit -/

@[simp] theorem State.emit_life (s : State) (e : Event) : (s.emit e).life = s.life := rfl
@[simp] theorem State.emit_fsm (s : State) (e : Event) : (s.emit e).fsm = s.fsm := rfl
@[simp] theorem State.emit_run (s : State) (e : Event) : (s.emit e).run = s.run := rfl
@[simp] theorem State.emit_upc (s : State) (e : Event) : (s.emit e).upc = s.upc := rfl
@[simp] theorem State.emit_lenIn (s : State) (e : Event) : (s.emit e).lenIn = s.lenIn := rfl
@[simp] theorem State.emit_frameLen (s : State) (e : Event) : (s.emit e).frameLen = s.frameLen := rfl
@[simp] theorem State.emit_offset (s : State) (e : Event) : (s.emit e).offset = s.offset := rfl
@[simp] theorem State.emit_polls (s : State) (e : Event) : (s.emit e).polls = s.polls := rfl
@[simp] theorem State.emit_pollBudget (s : State) (e : Event) : (s.emit e).pollBudget = s.pollBudget := rfl
@[simp] theorem State.emit_outcome (s : State) (e : Event) : (s.emit e).outcome = s.outcome := rfl
@[simp] theorem State.emit_outcomeValid (s : State) (e : Event) : (s.emit e).outcomeValid = s.outcomeValid := rfl
@[simp] theorem State.emit_failPhase (s : State) (e : Event) : (s.emit e).failPhase = s.failPhase := rfl
@[simp] theorem State.emit_csN (s : State) (e : Event) : (s.emit e).csN = s.csN := rfl
@[simp] theorem State.emit_rstN (s : State) (e : Event) : (s.emit e).rstN = s.rstN := rfl
@[simp] theorem State.emit_oe (s : State) (e : Event) : (s.emit e).oe = s.oe := rfl
@[simp] theorem State.emit_doneLast (s : State) (e : Event) : (s.emit e).doneLast = s.doneLast := rfl
@[simp] theorem State.emit_auxclkOn (s : State) (e : Event) : (s.emit e).auxclkOn = s.auxclkOn := rfl
@[simp] theorem State.emit_busAcq (s : State) (e : Event) : (s.emit e).busAcq = s.busAcq := rfl
@[simp] theorem State.emit_img (s : State) (e : Event) : (s.emit e).img = s.img := rfl
@[simp] theorem State.emit_imgEpoch (s : State) (e : Event) : (s.emit e).imgEpoch = s.imgEpoch := rfl
@[simp] theorem State.emit_rom (s : State) (e : Event) : (s.emit e).rom = s.rom := rfl
@[simp] theorem State.emit_params (s : State) (e : Event) : (s.emit e).params = s.params := rfl
@[simp] theorem State.emit_trace (s : State) (e : Event) : (s.emit e).trace = s.trace ++ [e] := rfl
@[simp] theorem State.emit_inputs (s : State) (e : Event) : (s.emit e).inputs = s.inputs := rfl
@[simp] theorem State.emit_env (s : State) (e : Event) : (s.emit e).env = s.env := rfl
@[simp] theorem State.emit_hostReads (s : State) (e : Event) : (s.emit e).hostReads = s.hostReads := rfl

/-! ### State.setFsm -/

@[simp] theorem State.setFsm_life (s : State) (phase : Fsm) : (s.setFsm phase).life = s.life := rfl
@[simp] theorem State.setFsm_fsm (s : State) (phase : Fsm) : (s.setFsm phase).fsm = phase := rfl
@[simp] theorem State.setFsm_run (s : State) (phase : Fsm) : (s.setFsm phase).run = s.run := rfl
@[simp] theorem State.setFsm_upc (s : State) (phase : Fsm) : (s.setFsm phase).upc = s.upc := rfl
@[simp] theorem State.setFsm_lenIn (s : State) (phase : Fsm) : (s.setFsm phase).lenIn = s.lenIn := rfl
@[simp] theorem State.setFsm_frameLen (s : State) (phase : Fsm) : (s.setFsm phase).frameLen = s.frameLen := rfl
@[simp] theorem State.setFsm_offset (s : State) (phase : Fsm) : (s.setFsm phase).offset = s.offset := rfl
@[simp] theorem State.setFsm_polls (s : State) (phase : Fsm) : (s.setFsm phase).polls = s.polls := rfl
@[simp] theorem State.setFsm_pollBudget (s : State) (phase : Fsm) : (s.setFsm phase).pollBudget = s.pollBudget := rfl
@[simp] theorem State.setFsm_outcome (s : State) (phase : Fsm) : (s.setFsm phase).outcome = s.outcome := rfl
@[simp] theorem State.setFsm_outcomeValid (s : State) (phase : Fsm) : (s.setFsm phase).outcomeValid = s.outcomeValid := rfl
@[simp] theorem State.setFsm_failPhase (s : State) (phase : Fsm) : (s.setFsm phase).failPhase = s.failPhase := rfl
@[simp] theorem State.setFsm_csN (s : State) (phase : Fsm) : (s.setFsm phase).csN = s.csN := rfl
@[simp] theorem State.setFsm_rstN (s : State) (phase : Fsm) : (s.setFsm phase).rstN = s.rstN := rfl
@[simp] theorem State.setFsm_oe (s : State) (phase : Fsm) : (s.setFsm phase).oe = s.oe := rfl
@[simp] theorem State.setFsm_doneLast (s : State) (phase : Fsm) : (s.setFsm phase).doneLast = s.doneLast := rfl
@[simp] theorem State.setFsm_auxclkOn (s : State) (phase : Fsm) : (s.setFsm phase).auxclkOn = s.auxclkOn := rfl
@[simp] theorem State.setFsm_busAcq (s : State) (phase : Fsm) : (s.setFsm phase).busAcq = s.busAcq := rfl
@[simp] theorem State.setFsm_img (s : State) (phase : Fsm) : (s.setFsm phase).img = s.img := rfl
@[simp] theorem State.setFsm_imgEpoch (s : State) (phase : Fsm) : (s.setFsm phase).imgEpoch = s.imgEpoch := rfl
@[simp] theorem State.setFsm_rom (s : State) (phase : Fsm) : (s.setFsm phase).rom = s.rom := rfl
@[simp] theorem State.setFsm_params (s : State) (phase : Fsm) : (s.setFsm phase).params = s.params := rfl
@[simp] theorem State.setFsm_trace (s : State) (phase : Fsm) : (s.setFsm phase).trace = s.trace := rfl
@[simp] theorem State.setFsm_inputs (s : State) (phase : Fsm) : (s.setFsm phase).inputs = s.inputs := rfl
@[simp] theorem State.setFsm_env (s : State) (phase : Fsm) : (s.setFsm phase).env = s.env := rfl
@[simp] theorem State.setFsm_hostReads (s : State) (phase : Fsm) : (s.setFsm phase).hostReads = s.hostReads := rfl

/-! ### State.setUpc -/

@[simp] theorem State.setUpc_life (s : State) (t : BitVec 4) : (s.setUpc t).life = s.life := rfl
@[simp] theorem State.setUpc_fsm (s : State) (t : BitVec 4) : (s.setUpc t).fsm = s.fsm := rfl
@[simp] theorem State.setUpc_run (s : State) (t : BitVec 4) : (s.setUpc t).run = s.run := rfl
@[simp] theorem State.setUpc_upc (s : State) (t : BitVec 4) : (s.setUpc t).upc = t := rfl
@[simp] theorem State.setUpc_lenIn (s : State) (t : BitVec 4) : (s.setUpc t).lenIn = s.lenIn := rfl
@[simp] theorem State.setUpc_frameLen (s : State) (t : BitVec 4) : (s.setUpc t).frameLen = s.frameLen := rfl
@[simp] theorem State.setUpc_offset (s : State) (t : BitVec 4) : (s.setUpc t).offset = s.offset := rfl
@[simp] theorem State.setUpc_polls (s : State) (t : BitVec 4) : (s.setUpc t).polls = s.polls := rfl
@[simp] theorem State.setUpc_pollBudget (s : State) (t : BitVec 4) : (s.setUpc t).pollBudget = s.pollBudget := rfl
@[simp] theorem State.setUpc_outcome (s : State) (t : BitVec 4) : (s.setUpc t).outcome = s.outcome := rfl
@[simp] theorem State.setUpc_outcomeValid (s : State) (t : BitVec 4) : (s.setUpc t).outcomeValid = s.outcomeValid := rfl
@[simp] theorem State.setUpc_failPhase (s : State) (t : BitVec 4) : (s.setUpc t).failPhase = s.failPhase := rfl
@[simp] theorem State.setUpc_csN (s : State) (t : BitVec 4) : (s.setUpc t).csN = s.csN := rfl
@[simp] theorem State.setUpc_rstN (s : State) (t : BitVec 4) : (s.setUpc t).rstN = s.rstN := rfl
@[simp] theorem State.setUpc_oe (s : State) (t : BitVec 4) : (s.setUpc t).oe = s.oe := rfl
@[simp] theorem State.setUpc_doneLast (s : State) (t : BitVec 4) : (s.setUpc t).doneLast = s.doneLast := rfl
@[simp] theorem State.setUpc_auxclkOn (s : State) (t : BitVec 4) : (s.setUpc t).auxclkOn = s.auxclkOn := rfl
@[simp] theorem State.setUpc_busAcq (s : State) (t : BitVec 4) : (s.setUpc t).busAcq = s.busAcq := rfl
@[simp] theorem State.setUpc_img (s : State) (t : BitVec 4) : (s.setUpc t).img = s.img := rfl
@[simp] theorem State.setUpc_imgEpoch (s : State) (t : BitVec 4) : (s.setUpc t).imgEpoch = s.imgEpoch := rfl
@[simp] theorem State.setUpc_rom (s : State) (t : BitVec 4) : (s.setUpc t).rom = s.rom := rfl
@[simp] theorem State.setUpc_params (s : State) (t : BitVec 4) : (s.setUpc t).params = s.params := rfl
@[simp] theorem State.setUpc_trace (s : State) (t : BitVec 4) : (s.setUpc t).trace = s.trace := rfl
@[simp] theorem State.setUpc_inputs (s : State) (t : BitVec 4) : (s.setUpc t).inputs = s.inputs := rfl
@[simp] theorem State.setUpc_env (s : State) (t : BitVec 4) : (s.setUpc t).env = s.env := rfl
@[simp] theorem State.setUpc_hostReads (s : State) (t : BitVec 4) : (s.setUpc t).hostReads = s.hostReads := rfl

/-! ### State.popInput -/

@[simp] theorem State.popInput_life (s : State) : s.popInput.life = s.life := rfl
@[simp] theorem State.popInput_fsm (s : State) : s.popInput.fsm = s.fsm := rfl
@[simp] theorem State.popInput_run (s : State) : s.popInput.run = s.run := rfl
@[simp] theorem State.popInput_upc (s : State) : s.popInput.upc = s.upc := rfl
@[simp] theorem State.popInput_lenIn (s : State) : s.popInput.lenIn = s.lenIn := rfl
@[simp] theorem State.popInput_frameLen (s : State) : s.popInput.frameLen = s.frameLen := rfl
@[simp] theorem State.popInput_offset (s : State) : s.popInput.offset = s.offset := rfl
@[simp] theorem State.popInput_polls (s : State) : s.popInput.polls = s.polls := rfl
@[simp] theorem State.popInput_pollBudget (s : State) : s.popInput.pollBudget = s.pollBudget := rfl
@[simp] theorem State.popInput_outcome (s : State) : s.popInput.outcome = s.outcome := rfl
@[simp] theorem State.popInput_outcomeValid (s : State) : s.popInput.outcomeValid = s.outcomeValid := rfl
@[simp] theorem State.popInput_failPhase (s : State) : s.popInput.failPhase = s.failPhase := rfl
@[simp] theorem State.popInput_csN (s : State) : s.popInput.csN = s.csN := rfl
@[simp] theorem State.popInput_rstN (s : State) : s.popInput.rstN = s.rstN := rfl
@[simp] theorem State.popInput_oe (s : State) : s.popInput.oe = s.oe := rfl
@[simp] theorem State.popInput_doneLast (s : State) : s.popInput.doneLast = s.doneLast := rfl
@[simp] theorem State.popInput_auxclkOn (s : State) : s.popInput.auxclkOn = s.auxclkOn := rfl
@[simp] theorem State.popInput_busAcq (s : State) : s.popInput.busAcq = s.busAcq := rfl
@[simp] theorem State.popInput_img (s : State) : s.popInput.img = s.img := rfl
@[simp] theorem State.popInput_imgEpoch (s : State) : s.popInput.imgEpoch = s.imgEpoch := rfl
@[simp] theorem State.popInput_rom (s : State) : s.popInput.rom = s.rom := rfl
@[simp] theorem State.popInput_params (s : State) : s.popInput.params = s.params := rfl
@[simp] theorem State.popInput_trace (s : State) : s.popInput.trace = s.trace := rfl
@[simp] theorem State.popInput_inputs (s : State) : s.popInput.inputs = s.inputs.tail := rfl
@[simp] theorem State.popInput_env (s : State) : s.popInput.env = s.env := rfl
@[simp] theorem State.popInput_hostReads (s : State) : s.popInput.hostReads = s.hostReads := rfl

/-! ### State.recordRead -/

@[simp] theorem State.recordRead_life (s : State) (v : Word) : (s.recordRead v).life = s.life := rfl
@[simp] theorem State.recordRead_fsm (s : State) (v : Word) : (s.recordRead v).fsm = s.fsm := rfl
@[simp] theorem State.recordRead_run (s : State) (v : Word) : (s.recordRead v).run = s.run := rfl
@[simp] theorem State.recordRead_upc (s : State) (v : Word) : (s.recordRead v).upc = s.upc := rfl
@[simp] theorem State.recordRead_lenIn (s : State) (v : Word) : (s.recordRead v).lenIn = s.lenIn := rfl
@[simp] theorem State.recordRead_frameLen (s : State) (v : Word) : (s.recordRead v).frameLen = s.frameLen := rfl
@[simp] theorem State.recordRead_offset (s : State) (v : Word) : (s.recordRead v).offset = s.offset := rfl
@[simp] theorem State.recordRead_polls (s : State) (v : Word) : (s.recordRead v).polls = s.polls := rfl
@[simp] theorem State.recordRead_pollBudget (s : State) (v : Word) : (s.recordRead v).pollBudget = s.pollBudget := rfl
@[simp] theorem State.recordRead_outcome (s : State) (v : Word) : (s.recordRead v).outcome = s.outcome := rfl
@[simp] theorem State.recordRead_outcomeValid (s : State) (v : Word) : (s.recordRead v).outcomeValid = s.outcomeValid := rfl
@[simp] theorem State.recordRead_failPhase (s : State) (v : Word) : (s.recordRead v).failPhase = s.failPhase := rfl
@[simp] theorem State.recordRead_csN (s : State) (v : Word) : (s.recordRead v).csN = s.csN := rfl
@[simp] theorem State.recordRead_rstN (s : State) (v : Word) : (s.recordRead v).rstN = s.rstN := rfl
@[simp] theorem State.recordRead_oe (s : State) (v : Word) : (s.recordRead v).oe = s.oe := rfl
@[simp] theorem State.recordRead_doneLast (s : State) (v : Word) : (s.recordRead v).doneLast = s.doneLast := rfl
@[simp] theorem State.recordRead_auxclkOn (s : State) (v : Word) : (s.recordRead v).auxclkOn = s.auxclkOn := rfl
@[simp] theorem State.recordRead_busAcq (s : State) (v : Word) : (s.recordRead v).busAcq = s.busAcq := rfl
@[simp] theorem State.recordRead_img (s : State) (v : Word) : (s.recordRead v).img = s.img := rfl
@[simp] theorem State.recordRead_imgEpoch (s : State) (v : Word) : (s.recordRead v).imgEpoch = s.imgEpoch := rfl
@[simp] theorem State.recordRead_rom (s : State) (v : Word) : (s.recordRead v).rom = s.rom := rfl
@[simp] theorem State.recordRead_params (s : State) (v : Word) : (s.recordRead v).params = s.params := rfl
@[simp] theorem State.recordRead_trace (s : State) (v : Word) : (s.recordRead v).trace = s.trace := rfl
@[simp] theorem State.recordRead_inputs (s : State) (v : Word) : (s.recordRead v).inputs = s.inputs := rfl
@[simp] theorem State.recordRead_env (s : State) (v : Word) : (s.recordRead v).env = s.env := rfl
@[simp] theorem State.recordRead_hostReads (s : State) (v : Word) : (s.recordRead v).hostReads = s.hostReads ++ [v] := rfl

/-! ### State.imgWrite -/

@[simp] theorem State.imgWrite_life (s : State) (i : BitVec 16) (v : Byte) : (s.imgWrite i v).life = s.life := rfl
@[simp] theorem State.imgWrite_fsm (s : State) (i : BitVec 16) (v : Byte) : (s.imgWrite i v).fsm = s.fsm := rfl
@[simp] theorem State.imgWrite_run (s : State) (i : BitVec 16) (v : Byte) : (s.imgWrite i v).run = s.run := rfl
@[simp] theorem State.imgWrite_upc (s : State) (i : BitVec 16) (v : Byte) : (s.imgWrite i v).upc = s.upc := rfl
@[simp] theorem State.imgWrite_lenIn (s : State) (i : BitVec 16) (v : Byte) : (s.imgWrite i v).lenIn = s.lenIn := rfl
@[simp] theorem State.imgWrite_frameLen (s : State) (i : BitVec 16) (v : Byte) : (s.imgWrite i v).frameLen = s.frameLen := rfl
@[simp] theorem State.imgWrite_offset (s : State) (i : BitVec 16) (v : Byte) : (s.imgWrite i v).offset = s.offset := rfl
@[simp] theorem State.imgWrite_polls (s : State) (i : BitVec 16) (v : Byte) : (s.imgWrite i v).polls = s.polls := rfl
@[simp] theorem State.imgWrite_pollBudget (s : State) (i : BitVec 16) (v : Byte) : (s.imgWrite i v).pollBudget = s.pollBudget := rfl
@[simp] theorem State.imgWrite_outcome (s : State) (i : BitVec 16) (v : Byte) : (s.imgWrite i v).outcome = s.outcome := rfl
@[simp] theorem State.imgWrite_outcomeValid (s : State) (i : BitVec 16) (v : Byte) : (s.imgWrite i v).outcomeValid = s.outcomeValid := rfl
@[simp] theorem State.imgWrite_failPhase (s : State) (i : BitVec 16) (v : Byte) : (s.imgWrite i v).failPhase = s.failPhase := rfl
@[simp] theorem State.imgWrite_csN (s : State) (i : BitVec 16) (v : Byte) : (s.imgWrite i v).csN = s.csN := rfl
@[simp] theorem State.imgWrite_rstN (s : State) (i : BitVec 16) (v : Byte) : (s.imgWrite i v).rstN = s.rstN := rfl
@[simp] theorem State.imgWrite_oe (s : State) (i : BitVec 16) (v : Byte) : (s.imgWrite i v).oe = s.oe := rfl
@[simp] theorem State.imgWrite_doneLast (s : State) (i : BitVec 16) (v : Byte) : (s.imgWrite i v).doneLast = s.doneLast := rfl
@[simp] theorem State.imgWrite_auxclkOn (s : State) (i : BitVec 16) (v : Byte) : (s.imgWrite i v).auxclkOn = s.auxclkOn := rfl
@[simp] theorem State.imgWrite_busAcq (s : State) (i : BitVec 16) (v : Byte) : (s.imgWrite i v).busAcq = s.busAcq := rfl
@[simp] theorem State.imgWrite_img (s : State) (i : BitVec 16) (v : Byte) : (s.imgWrite i v).img = Memory.write s.img i.toNat v := rfl
@[simp] theorem State.imgWrite_imgEpoch (s : State) (i : BitVec 16) (v : Byte) : (s.imgWrite i v).imgEpoch = s.imgEpoch := rfl
@[simp] theorem State.imgWrite_rom (s : State) (i : BitVec 16) (v : Byte) : (s.imgWrite i v).rom = s.rom := rfl
@[simp] theorem State.imgWrite_params (s : State) (i : BitVec 16) (v : Byte) : (s.imgWrite i v).params = s.params := rfl
@[simp] theorem State.imgWrite_trace (s : State) (i : BitVec 16) (v : Byte) : (s.imgWrite i v).trace = s.trace := rfl
@[simp] theorem State.imgWrite_inputs (s : State) (i : BitVec 16) (v : Byte) : (s.imgWrite i v).inputs = s.inputs := rfl
@[simp] theorem State.imgWrite_env (s : State) (i : BitVec 16) (v : Byte) : (s.imgWrite i v).env = s.env := rfl
@[simp] theorem State.imgWrite_hostReads (s : State) (i : BitVec 16) (v : Byte) : (s.imgWrite i v).hostReads = s.hostReads := rfl

/-! ### State.takeBusAnswer -/

@[simp] theorem State.takeBusAnswer_life (s : State) : s.takeBusAnswer.life = s.life := rfl
@[simp] theorem State.takeBusAnswer_fsm (s : State) : s.takeBusAnswer.fsm = s.fsm := rfl
@[simp] theorem State.takeBusAnswer_run (s : State) : s.takeBusAnswer.run = s.run := rfl
@[simp] theorem State.takeBusAnswer_upc (s : State) : s.takeBusAnswer.upc = s.upc := rfl
@[simp] theorem State.takeBusAnswer_lenIn (s : State) : s.takeBusAnswer.lenIn = s.lenIn := rfl
@[simp] theorem State.takeBusAnswer_frameLen (s : State) : s.takeBusAnswer.frameLen = s.frameLen := rfl
@[simp] theorem State.takeBusAnswer_offset (s : State) : s.takeBusAnswer.offset = s.offset := rfl
@[simp] theorem State.takeBusAnswer_polls (s : State) : s.takeBusAnswer.polls = s.polls := rfl
@[simp] theorem State.takeBusAnswer_pollBudget (s : State) : s.takeBusAnswer.pollBudget = s.pollBudget := rfl
@[simp] theorem State.takeBusAnswer_outcome (s : State) : s.takeBusAnswer.outcome = s.outcome := rfl
@[simp] theorem State.takeBusAnswer_outcomeValid (s : State) : s.takeBusAnswer.outcomeValid = s.outcomeValid := rfl
@[simp] theorem State.takeBusAnswer_failPhase (s : State) : s.takeBusAnswer.failPhase = s.failPhase := rfl
@[simp] theorem State.takeBusAnswer_csN (s : State) : s.takeBusAnswer.csN = s.csN := rfl
@[simp] theorem State.takeBusAnswer_rstN (s : State) : s.takeBusAnswer.rstN = s.rstN := rfl
@[simp] theorem State.takeBusAnswer_oe (s : State) : s.takeBusAnswer.oe = s.oe := rfl
@[simp] theorem State.takeBusAnswer_doneLast (s : State) : s.takeBusAnswer.doneLast = s.doneLast := rfl
@[simp] theorem State.takeBusAnswer_auxclkOn (s : State) : s.takeBusAnswer.auxclkOn = s.auxclkOn := rfl
@[simp] theorem State.takeBusAnswer_busAcq (s : State) : s.takeBusAnswer.busAcq = s.busAcq := rfl
@[simp] theorem State.takeBusAnswer_img (s : State) : s.takeBusAnswer.img = s.img := rfl
@[simp] theorem State.takeBusAnswer_imgEpoch (s : State) : s.takeBusAnswer.imgEpoch = s.imgEpoch := rfl
@[simp] theorem State.takeBusAnswer_rom (s : State) : s.takeBusAnswer.rom = s.rom := rfl
@[simp] theorem State.takeBusAnswer_params (s : State) : s.takeBusAnswer.params = s.params := rfl
@[simp] theorem State.takeBusAnswer_trace (s : State) : s.takeBusAnswer.trace = s.trace := rfl
@[simp] theorem State.takeBusAnswer_inputs (s : State) : s.takeBusAnswer.inputs = s.inputs := rfl
@[simp] theorem State.takeBusAnswer_env (s : State) : s.takeBusAnswer.env = { s.env with busOk := s.env.busOk.tail, drawn := s.env.drawn + 1 } := rfl
@[simp] theorem State.takeBusAnswer_hostReads (s : State) : s.takeBusAnswer.hostReads = s.hostReads := rfl

/-! ### State.takeXferAnswer -/

@[simp] theorem State.takeXferAnswer_life (s : State) : s.takeXferAnswer.life = s.life := rfl
@[simp] theorem State.takeXferAnswer_fsm (s : State) : s.takeXferAnswer.fsm = s.fsm := rfl
@[simp] theorem State.takeXferAnswer_run (s : State) : s.takeXferAnswer.run = s.run := rfl
@[simp] theorem State.takeXferAnswer_upc (s : State) : s.takeXferAnswer.upc = s.upc := rfl
@[simp] theorem State.takeXferAnswer_lenIn (s : State) : s.takeXferAnswer.lenIn = s.lenIn := rfl
@[simp] theorem State.takeXferAnswer_frameLen (s : State) : s.takeXferAnswer.frameLen = s.frameLen := rfl
@[simp] theorem State.takeXferAnswer_offset (s : State) : s.takeXferAnswer.offset = s.offset := rfl
@[simp] theorem State.takeXferAnswer_polls (s : State) : s.takeXferAnswer.polls = s.polls := rfl
@[simp] theorem State.takeXferAnswer_pollBudget (s : State) : s.takeXferAnswer.pollBudget = s.pollBudget := rfl
@[simp] theorem State.takeXferAnswer_outcome (s : State) : s.takeXferAnswer.outcome = s.outcome := rfl
@[simp] theorem State.takeXferAnswer_outcomeValid (s : State) : s.takeXferAnswer.outcomeValid = s.outcomeValid := rfl
@[simp] theorem State.takeXferAnswer_failPhase (s : State) : s.takeXferAnswer.failPhase = s.failPhase := rfl
@[simp] theorem State.takeXferAnswer_csN (s : State) : s.takeXferAnswer.csN = s.csN := rfl
@[simp] theorem State.takeXferAnswer_rstN (s : State) : s.takeXferAnswer.rstN = s.rstN := rfl
@[simp] theorem State.takeXferAnswer_oe (s : State) : s.takeXferAnswer.oe = s.oe := rfl
@[simp] theorem State.takeXferAnswer_doneLast (s : State) : s.takeXferAnswer.doneLast = s.doneLast := rfl
@[simp] theorem State.takeXferAnswer_auxclkOn (s : State) : s.takeXferAnswer.auxclkOn = s.auxclkOn := rfl
@[simp] theorem State.takeXferAnswer_busAcq (s : State) : s.takeXferAnswer.busAcq = s.busAcq := rfl
@[simp] theorem State.takeXferAnswer_img (s : State) : s.takeXferAnswer.img = s.img := rfl
@[simp] theorem State.takeXferAnswer_imgEpoch (s : State) : s.takeXferAnswer.imgEpoch = s.imgEpoch := rfl
@[simp] theorem State.takeXferAnswer_rom (s : State) : s.takeXferAnswer.rom = s.rom := rfl
@[simp] theorem State.takeXferAnswer_params (s : State) : s.takeXferAnswer.params = s.params := rfl
@[simp] theorem State.takeXferAnswer_trace (s : State) : s.takeXferAnswer.trace = s.trace := rfl
@[simp] theorem State.takeXferAnswer_inputs (s : State) : s.takeXferAnswer.inputs = s.inputs := rfl
@[simp] theorem State.takeXferAnswer_env (s : State) : s.takeXferAnswer.env = { s.env with xferOk := s.env.xferOk.tail, drawn := s.env.drawn + 1 } := rfl
@[simp] theorem State.takeXferAnswer_hostReads (s : State) : s.takeXferAnswer.hostReads = s.hostReads := rfl

/-! ### State.takeDoneSample -/

@[simp] theorem State.takeDoneSample_life (s : State) : s.takeDoneSample.life = s.life := rfl
@[simp] theorem State.takeDoneSample_fsm (s : State) : s.takeDoneSample.fsm = s.fsm := rfl
@[simp] theorem State.takeDoneSample_run (s : State) : s.takeDoneSample.run = s.run := rfl
@[simp] theorem State.takeDoneSample_upc (s : State) : s.takeDoneSample.upc = s.upc := rfl
@[simp] theorem State.takeDoneSample_lenIn (s : State) : s.takeDoneSample.lenIn = s.lenIn := rfl
@[simp] theorem State.takeDoneSample_frameLen (s : State) : s.takeDoneSample.frameLen = s.frameLen := rfl
@[simp] theorem State.takeDoneSample_offset (s : State) : s.takeDoneSample.offset = s.offset := rfl
@[simp] theorem State.takeDoneSample_polls (s : State) : s.takeDoneSample.polls = s.polls := rfl
@[simp] theorem State.takeDoneSample_pollBudget (s : State) : s.takeDoneSample.pollBudget = s.pollBudget := rfl
@[simp] theorem State.takeDoneSample_outcome (s : State) : s.takeDoneSample.outcome = s.outcome := rfl
@[simp] theorem State.takeDoneSample_outcomeValid (s : State) : s.takeDoneSample.outcomeValid = s.outcomeValid := rfl
@[simp] theorem State.takeDoneSample_failPhase (s : State) : s.takeDoneSample.failPhase = s.failPhase := rfl
@[simp] theorem State.takeDoneSample_csN (s : State) : s.takeDoneSample.csN = s.csN := rfl
@[simp] theorem State.takeDoneSample_rstN (s : State) : s.takeDoneSample.rstN = s.rstN := rfl
@[simp] theorem State.takeDoneSample_oe (s : State) : s.takeDoneSample.oe = s.oe := rfl
@[simp] theorem State.takeDoneSample_doneLast (s : State) : s.takeDoneSample.doneLast = s.doneLast := rfl
@[simp] theorem State.takeDoneSample_auxclkOn (s : State) : s.takeDoneSample.auxclkOn = s.auxclkOn := rfl
@[simp] theorem State.takeDoneSample_busAcq (s : State) : s.takeDoneSample.busAcq = s.busAcq := rfl
@[simp] theorem State.takeDoneSample_img (s : State) : s.takeDoneSample.img = s.img := rfl
@[simp] theorem State.takeDoneSample_imgEpoch (s : State) : s.takeDoneSample.imgEpoch = s.imgEpoch := rfl
@[simp] theorem State.takeDoneSample_rom (s : State) : s.takeDoneSample.rom = s.rom := rfl
@[simp] theorem State.takeDoneSample_params (s : State) : s.takeDoneSample.params = s.params := rfl
@[simp] theorem State.takeDoneSample_trace (s : State) : s.takeDoneSample.trace = s.trace := rfl
@[simp] theorem State.takeDoneSample_inputs (s : State) : s.takeDoneSample.inputs = s.inputs := rfl
@[simp] theorem State.takeDoneSample_env (s : State) : s.takeDoneSample.env = { s.env with doneLevel := s.env.doneLevel.tail, drawn := s.env.drawn + 1 } := rfl
@[simp] theorem State.takeDoneSample_hostReads (s : State) : s.takeDoneSample.hostReads = s.hostReads := rfl

/-! ### State.drivePin -/

@[simp] theorem State.drivePin_life (s : State) (pin : OutPin) (level : Level) : (s.drivePin pin level).life = s.life := by
  cases pin <;> rfl
@[simp] theorem State.drivePin_fsm (s : State) (pin : OutPin) (level : Level) : (s.drivePin pin level).fsm = s.fsm := by
  cases pin <;> rfl
@[simp] theorem State.drivePin_run (s : State) (pin : OutPin) (level : Level) : (s.drivePin pin level).run = s.run := by
  cases pin <;> rfl
@[simp] theorem State.drivePin_upc (s : State) (pin : OutPin) (level : Level) : (s.drivePin pin level).upc = s.upc := by
  cases pin <;> rfl
@[simp] theorem State.drivePin_lenIn (s : State) (pin : OutPin) (level : Level) : (s.drivePin pin level).lenIn = s.lenIn := by
  cases pin <;> rfl
@[simp] theorem State.drivePin_frameLen (s : State) (pin : OutPin) (level : Level) : (s.drivePin pin level).frameLen = s.frameLen := by
  cases pin <;> rfl
@[simp] theorem State.drivePin_offset (s : State) (pin : OutPin) (level : Level) : (s.drivePin pin level).offset = s.offset := by
  cases pin <;> rfl
@[simp] theorem State.drivePin_polls (s : State) (pin : OutPin) (level : Level) : (s.drivePin pin level).polls = s.polls := by
  cases pin <;> rfl
@[simp] theorem State.drivePin_pollBudget (s : State) (pin : OutPin) (level : Level) : (s.drivePin pin level).pollBudget = s.pollBudget := by
  cases pin <;> rfl
@[simp] theorem State.drivePin_outcome (s : State) (pin : OutPin) (level : Level) : (s.drivePin pin level).outcome = s.outcome := by
  cases pin <;> rfl
@[simp] theorem State.drivePin_outcomeValid (s : State) (pin : OutPin) (level : Level) : (s.drivePin pin level).outcomeValid = s.outcomeValid := by
  cases pin <;> rfl
@[simp] theorem State.drivePin_failPhase (s : State) (pin : OutPin) (level : Level) : (s.drivePin pin level).failPhase = s.failPhase := by
  cases pin <;> rfl
@[simp] theorem State.drivePin_csN (s : State) (level : Level) : (s.drivePin .csN level).csN = level := rfl
@[simp] theorem State.drivePin_csN_other (s : State) (level : Level) : (s.drivePin .rstN level).csN = s.csN := rfl
@[simp] theorem State.drivePin_rstN (s : State) (level : Level) : (s.drivePin .rstN level).rstN = level := rfl
@[simp] theorem State.drivePin_rstN_other (s : State) (level : Level) : (s.drivePin .csN level).rstN = s.rstN := rfl
@[simp] theorem State.drivePin_oe (s : State) (pin : OutPin) (level : Level) : (s.drivePin pin level).oe = s.oe := by
  cases pin <;> rfl
@[simp] theorem State.drivePin_doneLast (s : State) (pin : OutPin) (level : Level) : (s.drivePin pin level).doneLast = s.doneLast := by
  cases pin <;> rfl
@[simp] theorem State.drivePin_auxclkOn (s : State) (pin : OutPin) (level : Level) : (s.drivePin pin level).auxclkOn = s.auxclkOn := by
  cases pin <;> rfl
@[simp] theorem State.drivePin_busAcq (s : State) (pin : OutPin) (level : Level) : (s.drivePin pin level).busAcq = s.busAcq := by
  cases pin <;> rfl
@[simp] theorem State.drivePin_img (s : State) (pin : OutPin) (level : Level) : (s.drivePin pin level).img = s.img := by
  cases pin <;> rfl
@[simp] theorem State.drivePin_imgEpoch (s : State) (pin : OutPin) (level : Level) : (s.drivePin pin level).imgEpoch = s.imgEpoch := by
  cases pin <;> rfl
@[simp] theorem State.drivePin_rom (s : State) (pin : OutPin) (level : Level) : (s.drivePin pin level).rom = s.rom := by
  cases pin <;> rfl
@[simp] theorem State.drivePin_params (s : State) (pin : OutPin) (level : Level) : (s.drivePin pin level).params = s.params := by
  cases pin <;> rfl
@[simp] theorem State.drivePin_trace (s : State) (pin : OutPin) (level : Level) : (s.drivePin pin level).trace = s.trace := by
  cases pin <;> rfl
@[simp] theorem State.drivePin_inputs (s : State) (pin : OutPin) (level : Level) : (s.drivePin pin level).inputs = s.inputs := by
  cases pin <;> rfl
@[simp] theorem State.drivePin_env (s : State) (pin : OutPin) (level : Level) : (s.drivePin pin level).env = s.env := by
  cases pin <;> rfl
@[simp] theorem State.drivePin_hostReads (s : State) (pin : OutPin) (level : Level) : (s.drivePin pin level).hostReads = s.hostReads := by
  cases pin <;> rfl

end Sys2Proof.Machine
end

