-- ==== Sys2Proof/Laws/Ops.lean ====
section
/-! SUPPORT. For each shared operation, once, everything it does. -/

namespace Sys2Proof.Machine

/-- `advance` writes UPC alone. -/
theorem State.advance_eq (s : State) : s.advance = { s with upc := s.upc + 1#4 } := rfl

/-- An exchange gives the Transport's answer, takes it and emits one event. -/
theorem exchange_eq (tx : List Byte) (s : State) :
    exchange tx s =
      (s.xferAnswer,
        { s with env := s.takeXferAnswer.env, trace := s.trace ++ [.xfer tx s.xferAnswer] }) := rfl

/-- The failure entry writes FAIL_PHASE and UPC alone. -/
theorem failTransport_eq (s : State) : failTransport s = { s with failPhase := s.fsm, upc := 13#4 } := rfl

/-- Budget exhaustion writes FAIL_PHASE and UPC alone. -/
theorem failTimeout_eq (s : State) : failTimeout s = { s with failPhase := s.fsm, upc := 15#4 } := rfl

/-- The end of a session. -/
theorem finishSession_eq (o : SessionOutcome) (s : State) :
    finishSession o s =
      { s with outcome := o, outcomeValid := true, run := false, trace := s.trace ++ [.finish o] } := rfl

/-- A rejected input. -/
theorem rejectInput_eq (o : SessionOutcome) (s : State) :
    rejectInput o s =
      { s with
        frameLen := 0#16, fsm := .failed, outcome := o, outcomeValid := true,
        trace := s.trace ++ [.finish o] } := rfl

/-- The request for the bus. -/
theorem requestBus_eq (s : State) :
    requestBus s =
      (s.busAnswer,
        { s with
          auxclkOn := true, env := s.takeBusAnswer.env,
          trace := s.trace ++ [.auxClock s.params.auxClkHz] ++ [.busOpen s.params.busHz .mode0 s.busAnswer] }) := rfl

/-- The pins' setup. -/
theorem setUpPins_eq (s : State) :
    setUpPins s =
      { s with
        busAcq := true, csN := true, rstN := true, oe := true, fsm := .idle, life := .ready,
        trace := s.trace ++ [.pinSetup] } := rfl

/-- A DONE sample. -/
theorem takeSample_eq (s : State) :
    takeSample s =
      { s with
        doneLast := s.doneSample, polls := s.polls + 1#16, env := s.takeDoneSample.env,
        trace := s.trace ++ [.sample s.doneSample] } := rfl

/-- What POLL can do with a level: advance, time out, or wait; FSM, POLLS and the pins are as they were. -/
theorem judgeSample_cases (level : Level) (s : State) :
    (level = s.params.doneActive ∧ judgeSample level s = s.advance) ∨
    (level ≠ s.params.doneActive ∧ s.polls = s.pollBudget ∧ judgeSample level s = failTimeout s) ∨
    (level ≠ s.params.doneActive ∧ s.polls ≠ s.pollBudget ∧
      judgeSample level s = s.emit (.wait s.params.pollIntervalUs)) := by
  unfold judgeSample State.doneActive State.budgetReached
  by_cases h1 : level = s.params.doneActive
  · exact .inl ⟨h1, by simp [h1]⟩
  · by_cases h2 : s.polls = s.pollBudget
    · exact .inr (.inl ⟨h1, h2, by simp [h1, h2]⟩)
    · exact .inr (.inr ⟨h1, h2, by simp [h1, h2]⟩)

/-- The chunk length as a number, under XFERI's precondition (42_framer R143). -/
theorem chunkLength_toNat {s : State} (h : s.offset.toNat ≤ s.frameLen.toNat) :
    s.chunkLength.toNat = min s.params.chunk.toNat (s.frameLen.toNat - s.offset.toNat) := by
  have h1 : (s.frameLen - s.offset).toNat = s.frameLen.toNat - s.offset.toNat := by
    have := s.frameLen.isLt
    have := s.offset.isLt
    rw [BitVec.toNat_sub]
    omega
  unfold State.chunkLength
  split
  · next hle => rw [BitVec.le_def, h1] at hle; omega
  · next hle => rw [BitVec.le_def, h1] at hle; rw [h1]; omega

/-- The chunk has as many bytes as its length says. -/
@[simp] theorem chunkBytes_length (s : State) : s.chunkBytes.length = s.chunkLength.toNat := by
  simp [State.chunkBytes]

/-- What 00_scope R7 asks of every instance. -/
theorem Params.bounds (p : Params) :
    1 ≤ p.chunk.toNat ∧ p.chunk.toNat ≤ p.xferMax ∧ 200 ≤ p.tResetUs.toNat ∧ 1200 ≤ p.tReinitUs.toNat ∧
      2 ≤ p.flushBytes.toNat ∧ p.flushBytes.toNat ≤ p.xferMax ∧ 1 ≤ p.pollIntervalUs := by
  simpa [RawParams.legal] using p.legal

end Sys2Proof.Machine
end

