-- ==== Sys2Proof/Laws/PerInstr.lean ====
section
/-! SUPPORT. Statements about every instruction, one lemma a constructor: the encoding of an instruction lies in its row
of spec/opcode_table.json. -/

namespace Sys2Proof.Laws.OpcodeRow

/-- The row's mask, as spec/opcode_table.json has it. -/
def mask : Instr → Word
  | .init => 0xFFFFFFFF#32
  | .configure => 0xFFFFFFFF#32
  | .setpin _ _ _ => 0xF1FFFFEE#32
  | .delay _ _ => 0xF1000000#32
  | .xferc _ _ _ => 0xF1000000#32
  | .xferi _ => 0xF1FFFFFF#32
  | .poll _ => 0xF1FFFFFF#32
  | .endOp _ _ => 0xF1FFFFF8#32

/-- The row's match value, as spec/opcode_table.json has it. -/
def value : Instr → Word
  | .init => 0x00000001#32
  | .configure => 0x00000002#32
  | .setpin _ _ _ => 0x10000000#32
  | .delay _ _ => 0x20000000#32
  | .xferc _ _ _ => 0x30000000#32
  | .xferi _ => 0x40000000#32
  | .poll _ => 0x50000000#32
  | .endOp _ _ => 0x60000000#32

/-- The encoding of an instruction matches its row of the opcode table. -/
def Statement (i : Instr) : Prop := encode i &&& mask i = value i

/-- A micro-word under the mask of its UOP and of bit 24. -/
theorem microWord_and (u : BitVec 4) (f : Fsm) (x : BitVec 24) :
    microWord u f x &&& 0xF1000000#32 = u.setWidth 32 <<< 28 := by
  ext i hi
  interval_cases i <;> simp [microWord]

theorem init : Statement .init := by
  unfold Statement
  decide

theorem configure : Statement .configure := by
  unfold Statement
  decide

theorem setpin (phase : Fsm) (pin : OutPin) (level : Level) : Statement (.setpin phase pin level) := by
  cases phase <;> cases pin <;> cases level <;> (unfold Statement; decide)

theorem delay (phase : Fsm) (t : BitVec 24) : Statement (.delay phase t) :=
  (microWord_and 0x2#4 phase t).trans
    (show BitVec.setWidth 32 0x2#4 <<< 28 = 0x20000000#32 by decide)

theorem xferc (phase : Fsm) (fill : Byte) (count : BitVec 16) : Statement (.xferc phase fill count) :=
  (microWord_and 0x3#4 phase (xfercOperand fill count)).trans
    (show BitVec.setWidth 32 0x3#4 <<< 28 = 0x30000000#32 by decide)

theorem xferi (phase : Fsm) : Statement (.xferi phase) := by
  cases phase <;> (unfold Statement; decide)

theorem poll (phase : Fsm) : Statement (.poll phase) := by
  cases phase <;> (unfold Statement; decide)

theorem endOp (phase : Fsm) (code : SessionOutcome) : Statement (.endOp phase code) := by
  cases phase <;> cases code <;> (unfold Statement; decide)

end Sys2Proof.Laws.OpcodeRow
end

