-- ==== Sys2Proof/Laws/Step.lean ====
section
/-! SUPPORT. What a host access, a turn of the block and a step can do, once. -/

namespace Sys2Proof.Machine

/-- A step that answers a next state is a host access, a block reset, or the block's turn. -/
theorem step_next_cases {s t : State} (h : step s = .next t) :
    (∃ a rest, s.inputs = .access a :: rest ∧ hostAccess a s.popInput = .next t) ∨
    (∃ rest, s.inputs = .blockReset :: rest ∧ t = blockReset s.popInput) ∨
    ((s.inputs = [] ∨ ∃ rest, s.inputs = .blockTurn :: rest) ∧ blockTurn s.popInput = .next t) := by
  unfold step at h
  split at h
  · next a rest hi => exact .inl ⟨a, rest, hi, h⟩
  · next rest hi => exact .inr (.inl ⟨rest, hi, (Host.Outcome.next.inj h).symm⟩)
  · next rest hi => exact .inr (.inr ⟨.inr ⟨rest, hi⟩, h⟩)
  · next hi => exact .inr (.inr ⟨.inl hi, h⟩)

/-- The block's turn that answers a next state leaves an idle block as it is, or runs the word at UPC. -/
theorem blockTurn_next_cases {s t : State} (h : blockTurn s = .next t) :
    (s.run = false ∧ t = s) ∨ (s.run = true ∧ ∃ i, decodeMicro s.fetch = .ok i ∧ exec i s = .next t) := by
  unfold blockTurn at h
  split at h
  · next hr =>
    unfold sequencerStep at h
    split at h
    · next i hi => exact .inr ⟨hr, i, hi, h⟩
    · cases h
  · next hr => exact .inl ⟨by simpa using hr, (Host.Outcome.next.inj h).symm⟩

/-- A host write that answers a next state does nothing, or with RUN = 0 it is a byte write in the image window, or an
aligned word write that stores LEN_IN or POLL_BUDGET or runs a command. -/
theorem hostWrite_next_cases {w : Width} {a : BitVec 17} {v : Word} {s t : State}
    (h : hostWrite w a v s = .next t) :
    t = s ∨
    (s.run = false ∧
      ((w = .w8 ∧ inImageWindow a = true ∧ t = s.imgWrite (imageIndex a) (v.setWidth 8)) ∨
        (w = .w32 ∧ a = 0x00008#17 ∧ t = { s with lenIn := v }) ∨
        (w = .w32 ∧ a = 0x00018#17 ∧ t = { s with pollBudget := v.setWidth 16 }) ∨
        (w = .w32 ∧ a = 0x00000#17 ∧ ∃ i, decodeCommand v = .ok i ∧ exec i s = .next t))) := by
  unfold hostWrite at h
  split at h
  · exact .inl (Host.Outcome.next.inj h).symm
  · next hr =>
    have hr : s.run = false := by simpa using hr
    split at h
    · next hw =>
      split at h
      · next hi => exact .inr ⟨hr, .inl ⟨by simpa [imageAccess] using hi, hw, (Host.Outcome.next.inj h).symm⟩⟩
      · exact .inl (Host.Outcome.next.inj h).symm
    · split at h
      · next hg =>
        have hg : w = .w32 := (by simpa [registerAccess] using hg : w = .w32 ∧ _).1
        unfold writeRegister at h
        split at h
        · next ha =>
          unfold writeCommand at h
          split at h
          · next i hi => exact .inr ⟨hr, .inr (.inr (.inr ⟨hg, BitVec.eq_of_toNat_eq ha, i, hi, h⟩))⟩
          · exact .inl (Host.Outcome.next.inj h).symm
        · next ha =>
          exact .inr ⟨hr, .inr (.inl ⟨hg, BitVec.eq_of_toNat_eq ha, (Host.Outcome.next.inj h).symm⟩)⟩
        · next ha =>
          exact .inr ⟨hr, .inr (.inr (.inl ⟨hg, BitVec.eq_of_toNat_eq ha, (Host.Outcome.next.inj h).symm⟩))⟩
        · exact .inl (Host.Outcome.next.inj h).symm
      · exact .inl (Host.Outcome.next.inj h).symm

/-- A host access that answers a next state is a read, or a write (see `hostWrite_next_cases`). -/
theorem hostAccess_next_cases {a : HostAccess} {s t : State} (h : hostAccess a s = .next t) :
    (∃ w addr, a = .read w addr ∧ t = s.recordRead (s.readValue w addr)) ∨
    (∃ w addr v, a = .write w addr v ∧ hostWrite w addr v s = .next t) := by
  cases a with
  | read w addr => exact .inl ⟨w, addr, rfl, (Host.Outcome.next.inj h).symm⟩
  | write w addr v => exact .inr ⟨w, addr, v, rfl, h⟩

/-- The one command words are INIT's and CONFIGURE's. -/
theorem decodeCommand_ok_cases {c : Word} {i : Instr} (h : decodeCommand c = .ok i) :
    (c = 1#32 ∧ i = .init) ∨ (c = 2#32 ∧ i = .configure) := by
  unfold decodeCommand at h
  split at h
  · next hc => exact .inl ⟨hc, (Except.ok.inj h).symm⟩
  · split at h
    · next hc => exact .inr ⟨hc, (Except.ok.inj h).symm⟩
    · cases h

end Sys2Proof.Machine
end

