-- ==== Sys2Proof/Laws/Rom.lean ====
section
/-! SUPPORT. With the ROM of 41_sequencer R120 in place, a turn of a running block is the program's instruction at UPC. -/

namespace Sys2Proof.Machine

/-- Every word of the ROM decodes to its instruction of the program. -/
theorem decodeMicro_romOf (p : Params) (k : Nat) (hk : k < 16) :
    decodeMicro ((romOf p)[k]) = .ok (romProgram p)[k] := by
  have hf : p.flushBytes ≠ 0#16 := by
    have h := (Params.bounds p).2.2.2.2.1
    rintro h0
    simp [h0] at h
  by_cases h2 : k = 2
  · subst h2; exact decodeMicro_delay .resetting p.tResetUs
  by_cases h4 : k = 4
  · subst h4; exact decodeMicro_delay .resetting p.tReinitUs
  by_cases h10 : k = 10
  · subst h10; exact decodeMicro_xferc .flushing p.flushFill hf
  interval_cases k <;>
    first
    | omega
    | (simp only [romOf, romProgram, Vector.getElem_mk, List.getElem_toArray, List.getElem_cons_zero,
        List.getElem_cons_succ]
       decide)

/-- A turn of a running block runs the program's instruction at UPC. -/
theorem blockTurn_rom {s : State} (hr : s.run = true) (hrom : s.rom = romOf s.params) :
    blockTurn s = exec (romProgram s.params)[s.upc.toNat] s := by
  have h : decodeMicro s.fetch = .ok (romProgram s.params)[s.upc.toNat] := by
    simp only [State.fetch, hrom]
    exact decodeMicro_romOf _ _ _
  simp [blockTurn, sequencerStep, hr, h]

end Sys2Proof.Machine
end

