-- ==== Sys2Proof/Laws/Runs.lean ====
section
/-! SUPPORT. The events of a run: what each reading of an event list gives on two lists joined, and on the events of
polling. -/

namespace Sys2Proof.Machine

@[simp] theorem busBytes_append (a b : List Event) : busBytes (a ++ b) = busBytes a ++ busBytes b := by
  induction a using busBytes.induct <;> simp_all [busBytes]

@[simp] theorem sampleLevels_append (a b : List Event) :
    sampleLevels (a ++ b) = sampleLevels a ++ sampleLevels b := by
  induction a using sampleLevels.induct <;> simp_all [sampleLevels]

@[simp] theorem waitCount_append (a b : List Event) : waitCount (a ++ b) = waitCount a + waitCount b := by
  induction a using waitCount.induct <;> simp_all [waitCount, Nat.add_right_comm]

/-- Polling sends nothing. -/
@[simp] theorem busBytes_pollEvents (p : Params) (n : Nat) (last : Level) : busBytes (pollEvents p n last) = [] := by
  induction n <;> simp_all [pollEvents, busBytes]

/-- Polling's samples: the inactive ones, then the last one. -/
@[simp] theorem sampleLevels_pollEvents (p : Params) (n : Nat) (last : Level) :
    sampleLevels (pollEvents p n last) = List.replicate n (!p.doneActive) ++ [last] := by
  induction n <;> simp_all [pollEvents, sampleLevels, List.replicate_succ]

/-- Polling waits once between two samples. -/
@[simp] theorem waitCount_pollEvents (p : Params) (n : Nat) (last : Level) : waitCount (pollEvents p n last) = n := by
  induction n <;> simp_all [pollEvents, waitCount]

/-- Polling is made of samples and waits alone, each wait of the poll interval. -/
theorem mem_pollEvents {p : Params} {n : Nat} {last : Level} {e : Event} (h : e ∈ pollEvents p n last) :
    (∃ v, e = .sample v) ∨ e = .wait p.pollIntervalUs := by
  induction n with
  | zero => exact .inl ⟨last, by simpa [pollEvents] using h⟩
  | succ n ih =>
    simp only [pollEvents, List.mem_cons] at h
    rcases h with h | h | h
    · exact .inl ⟨_, h⟩
    · exact .inr h
    · exact ih h

end Sys2Proof.Machine
end

