-- ==== Sys2Proof/Machine/Assembler.lean ====
section
/-! DEFINITION. The micro-assembler notation of 30_encoding R81: `<addr>: <MNEMONIC> <operands> @<Phase>`. The two host
commands are written by their mnemonics alone (R82). -/

namespace Sys2Proof.Machine

/-- The state names of 10_state R23. -/
def phaseName : Fsm → String
  | .idle => "Idle"
  | .resetting => "Resetting"
  | .priming => "Priming"
  | .streaming => "Streaming"
  | .flushing => "Flushing"
  | .awaitingCompletion => "AwaitingCompletion"
  | .done => "Done"
  | .failed => "Failed"

/-- The outcome names of 60_exceptions R200. -/
def outcomeName : SessionOutcome → String
  | .done => "Done"
  | .emptyInput => "EmptyInput"
  | .oversizedInput => "OversizedInput"
  | .transportFailure => "TransportFailure"
  | .completionTimeout => "CompletionTimeout"

/-- The pin names of 10_state R33. -/
def pinName : OutPin → String
  | .csN => "CS_N"
  | .rstN => "RST_N"

/-- One hexadecimal digit. -/
def hexDigit (d : Nat) : String :=
  match d with
  | 0 => "0" | 1 => "1" | 2 => "2" | 3 => "3" | 4 => "4" | 5 => "5" | 6 => "6" | 7 => "7"
  | 8 => "8" | 9 => "9" | 10 => "A" | 11 => "B" | 12 => "C" | 13 => "D" | 14 => "E" | _ => "F"

/-- A fill byte in hex, as R81 writes it. -/
def hexByte (b : Byte) : String :=
  "0x" ++ hexDigit (b.toNat / 16) ++ hexDigit (b.toNat % 16)

/-- A level, 0 or 1. -/
def levelDigit (l : Level) : String :=
  if l then "1" else "0"

/-- The mnemonic and operands of an instruction, with its phase (30_encoding R81). -/
def assembler : Instr → String
  | .init => "INIT"
  | .configure => "CONFIGURE"
  | .setpin phase pin level => "SETPIN " ++ pinName pin ++ ", " ++ levelDigit level ++ " @" ++ phaseName phase
  | .delay phase t => "DELAY " ++ toString t.toNat ++ " @" ++ phaseName phase
  | .xferc phase fill count => "XFERC " ++ hexByte fill ++ ", " ++ toString count.toNat ++ " @" ++ phaseName phase
  | .xferi phase => "XFERI @" ++ phaseName phase
  | .poll phase => "POLL @" ++ phaseName phase
  | .endOp phase code => "END " ++ outcomeName code ++ " @" ++ phaseName phase

/-- A line of a ROM listing (30_encoding R81). -/
def assemblerLine (address : BitVec 4) (i : Instr) : String :=
  toString address.toNat ++ ": " ++ assembler i

end Sys2Proof.Machine
end

