-- ==== Sys2Proof/Tests/Slice0.lean ====
section
/-! SUPPORT. Tests: words of spec/95_test_vectors (V-DE) written out and decoded, vectors of one step for each
operation, the check of WellFormed, and for each statement with hypotheses a state that meets them. -/

namespace Sys2Proof.Tests

open Sys2Proof.Machine

/-! ### States to test on -/

/-- An instance with P_CHUNK = 4 and the defaults of 00_scope R7. -/
def instance4 : Params where
  chunk := 4#16
  xferMax := 4
  tResetUs := 200#24
  tReinitUs := 1200#24
  flushBytes := 2#16
  flushFill := 0x00#8
  pollIntervalUs := 1000
  doneActive := true
  msbFirst := true
  busHz := 1000000
  auxClkHz := 12000000
  legal := by decide

/-- After power-on. -/
def fresh : State := State.powerOn instance4

/-- After V-IN-1. -/
def ready : State := { fresh with life := .ready, oe := true, auxclkOn := true, busAcq := true }

/-- After V-IN-2. -/
def broken : State := { fresh with life := .bringUpFailed, auxclkOn := true }

/-- A session of 10 image bytes, just accepted. -/
def begun : State :=
  { ready with
    run := true
    fsm := .resetting
    lenIn := 10#32
    frameLen := 10#16
    pollBudget := 3#16
    img := [(0, 0x10#8), (1, 0x11#8), (2, 0x12#8), (3, 0x13#8), (4, 0x14#8),
      (5, 0x15#8), (6, 0x16#8), (7, 0x17#8), (8, 0x18#8), (9, 0x19#8)] }

/-- The same session before its last chunk (42_framer R143's example). -/
def lastChunk : State := { begun with upc := 8#4, fsm := .streaming, csN := false, offset := 8#16 }

/-- The same session before its first POLL. -/
def polling : State := { begun with upc := 11#4, fsm := .flushing, offset := 10#16 }

/-- The same session after its priming exchange failed. -/
def failing : State := { begun with upc := 13#4, fsm := .priming, failPhase := .priming }

/-- The environment's next answers. -/
def State.answering (s : State) (xferOk : List Bool) (doneLevel : List Level) : State :=
  { s with env := ⟨[true], xferOk, doneLevel, 0⟩ }

/-- The host's next inputs. -/
def State.asked (s : State) (inputs : List Input) : State := { s with inputs := inputs }

/-- The next state of an outcome, `none` where it is none. -/
def nextOf : Host.Outcome State Fault Refusal → Option State
  | .next s => some s
  | .fault _ => none
  | .refused _ => none

/-- The state after `n` steps. -/
def after : Nat → State → Option State
  | 0, s => some s
  | n + 1, s => (nextOf (step s)).bind (after n)

theorem runsTo_of_after {n : Nat} {s t : State} (h : after n s = some t) : RunsTo n s t := by
  induction n generalizing s with
  | zero => exact (Option.some.inj h).symm
  | succ n ih =>
    simp only [after] at h
    cases hs : step s with
    | next u => exact ⟨u, hs, ih (by simpa [hs, nextOf] using h)⟩
    | fault r => simp [hs, nextOf] at h
    | refused r => simp [hs, nextOf] at h

/-! ### WellFormed -/

theorem test_wellFormed_refuses_count_zero : (Instr.xferc .priming 0x00#8 0#16).wellFormed = false := by decide
theorem test_wellFormed_takes_count_one : (Instr.xferc .priming 0x00#8 1#16).wellFormed = true := by decide

/-! ### Decoding (95_test_vectors V-DE, V-RC; 30_encoding R71, R74, R76) -/

theorem test_decode_init : decodeTableWord 32 0b00000000000000000000000000000001 = some .init := by decide
theorem test_decode_configure : decodeTableWord 32 0b00000000000000000000000000000010 = some .configure := by decide
theorem test_decode_setpin :
    decodeTableWord 32 0b0001_001_0_0000000000000000000_1_000_1 = some (.setpin .resetting .rstN true) := by decide
theorem test_decode_setpin_failed :
    decodeTableWord 32 0b0001_111_0_0000000000000000000_0_000_1 = some (.setpin .failed .csN true) := by decide
theorem test_decode_delay :
    decodeTableWord 32 0b0010_001_0_111111111111111111111111 = some (.delay .resetting 16777215#24) := by decide
theorem test_decode_xferc :
    decodeTableWord 32 0b0011_100_0_11111111_0000000000000011 = some (.xferc .flushing 0xFF#8 3#16) := by decide
theorem test_decode_xferi :
    decodeTableWord 32 0b0100_011_0_000000000000000000000000 = some (.xferi .streaming) := by decide
theorem test_decode_poll :
    decodeTableWord 32 0b0101_101_0_000000000000000000000000 = some (.poll .awaitingCompletion) := by decide
theorem test_decode_end :
    decodeTableWord 32 0b0110_111_0_000000000000000000000_100 = some (.endOp .failed .completionTimeout) := by decide

theorem test_decode_rejects_by_name :
    decodeMicro 0x12000002#32 = .error .operandBitsSet ∧ decodeMicro 0x13000000#32 = .error .bit24Set ∧
    decodeMicro 0x34AB0000#32 = .error .zeroCount ∧ decodeMicro 0x46000001#32 = .error .operandBitsSet ∧
    decodeMicro 0x6E000005#32 = .error .reservedOutcome ∧ decodeMicro 0x6E000008#32 = .error .operandBitsSet ∧
    decodeMicro 0x00000000#32 = .error .reservedUop ∧ decodeMicro 0x70000000#32 = .error .reservedUop ∧
    decodeMicro 0xF0000000#32 = .error .reservedUop := by decide
theorem test_reserved_commands :
    decodeCommand 0x00000000#32 = .error .reservedCommand ∧ decodeCommand 0x00000003#32 = .error .reservedCommand ∧
    decodeCommand 0x00000011#32 = .error .reservedCommand ∧ decodeCommand 0x80000002#32 = .error .reservedCommand := by
  decide

/-- 41_sequencer R120, the listing's words with the default parameters. -/
theorem test_rom_words :
    romOf instance4 =
      #v[0x12000000#32, 0x12000010#32, 0x220000C8#32, 0x12000011#32, 0x220004B0#32, 0x12000001#32, 0x34000001#32,
        0x16000000#32, 0x46000000#32, 0x18000001#32, 0x38000002#32, 0x5A000000#32, 0x6C000000#32, 0x1E000001#32,
        0x6E000003#32, 0x6E000004#32] := by decide

theorem test_assembler :
    assemblerLine 4#4 (.delay .resetting 1200#24) = "4: DELAY 1200 @Resetting" ∧
    assembler (.xferc .flushing 0x00#8 2#16) = "XFERC 0x00, 2 @Flushing" := by decide

/-- An instance with a short reset hold is refused (70_reset_and_hazards R233). -/
theorem test_illegal_instance : (Params.build? { instance4.toRawParams with tResetUs := 199#24 }).isNone = true := by
  decide

/-! ### One step of each operation (95_test_vectors, Part 2) -/

/-- V-IN-1. -/
theorem test_init_ok :
    (nextOf (exec .init (State.answering fresh [] []))).map
      (fun t => (t.statusWord, t.pinsWord, t.trace)) =
      some (0x00000010#32, 0x0000003B#32, [.auxClock 12000000, .busOpen 1000000 .mode0 true, .pinSetup]) := by decide
/-- V-IN-2. -/
theorem test_init_fails :
    (nextOf (exec .init { fresh with env := ⟨[false], [], [], 0⟩ })).map (fun t => (t.statusWord, t.pinsWord)) =
      some (0x00000020#32, 0x00000013#32) := by decide
/-- V-CF-2, V-CF-3, V-CF-4, V-CF-5: lengths 0, 1, 65535 and 65536. -/
theorem test_configure_lengths :
    [0#32, 1#32, 65535#32, 65536#32].map
      (fun l => (nextOf (exec .configure { ready with lenIn := l })).map State.statusWord) =
      [some 0x00000157#32, some 0x00000019#32, some 0x00000019#32, some 0x00000257#32] := by decide
/-- V-CF-7: the oversized length 0x00010004 is not narrowed. -/
theorem test_configure_does_not_narrow :
    (nextOf (exec .configure { ready with lenIn := 0x00010004#32 })).map (fun t => (t.frameLen, t.trace)) =
      some (0#16, [.finish .oversizedInput]) := by decide
/-- V-SP-1. -/
theorem test_setpin :
    (nextOf (step begun)).map (fun t => (t.pinsWord, t.upc, t.fsm, t.trace)) =
      some (0x0000003A#32, 1#4, .resetting, [.setPin .csN false]) := by decide
/-- V-DL-1. -/
theorem test_delay :
    (nextOf (step { begun with upc := 2#4 })).map (fun t => (t.upc, t.trace)) = some (3#4, [.delay 200]) := by decide
/-- V-XC-1. -/
theorem test_xferc_ok :
    (nextOf (step { State.answering begun [true] [] with upc := 6#4 })).map (fun t => (t.fsm, t.upc, t.trace)) =
      some (.priming, 7#4, [.xfer [0x00#8] true]) := by decide
/-- V-XC-2. -/
theorem test_xferc_fails :
    (nextOf (step { State.answering begun [false] [] with upc := 6#4 })).map (fun t => (t.failPhase, t.upc)) =
      some (.priming, 13#4) := by decide
/-- 42_framer R143's example. -/
theorem test_xferi_last_chunk :
    (nextOf (step (State.answering lastChunk [true] []))).map (fun t => (t.offset, t.upc, t.trace)) =
      some (10#16, 9#4, [.xfer [0x18#8, 0x19#8] true]) := by decide
/-- V-XI-8, the failed third chunk. -/
theorem test_xferi_fails :
    (nextOf (step (State.answering lastChunk [false] []))).map (fun t => (t.offset, t.upc, t.failPhase)) =
      some (8#16, 13#4, .streaming) := by decide
/-- V-PO-3, after the first sample; STATUS as there but for the budget's sake nothing else. -/
theorem test_poll_waits :
    (nextOf (step (State.answering polling [] [false]))).map (fun t => (t.statusWord, t.polls, t.trace)) =
      some (0x000B001D#32, 1#16, [.sample false, .wait 1000]) := by decide
/-- V-PO-4: success on the last allowed sample. -/
theorem test_poll_last_sample_succeeds :
    (nextOf (step { State.answering polling [] [true] with polls := 2#16 })).map (fun t => (t.upc, t.polls)) =
      some (12#4, 3#16) := by decide
/-- V-EN-3. -/
theorem test_end :
    (nextOf (step { polling with upc := 15#4, failPhase := .awaitingCompletion })).map
      (fun t => (t.statusWord, t.trace)) = some (0x000F5457#32, [.finish .completionTimeout]) := by decide

/-! ### Host accesses (95_test_vectors V-HA, V-OP) -/

/-- V-HA-1, V-HA-2, V-HA-3, V-HA-5, V-HA-6. -/
theorem test_host_reads :
    (after 6 (State.asked ready [w8 0x10001#17 0xAD#8, r8 0x10001#17, r8 0x00004#17, r32 0x00006#17, r32 0x10000#17,
      r32 0x0FFFC#17])).map (fun t => t.hostReads) = some [0xAD#32, 0#32, 0#32, 0#32, 0#32] := by decide
/-- V-OP-2, V-OP-6. -/
theorem test_host_operands :
    (after 3 (State.asked ready [w32 0x00018#17 0x00010005#32, r32 0x00018#17, r32 0x0001C#17])).map
      (fun t => t.hostReads) = some [5#32, 0x00020004#32] := by decide
/-- V-HA-9: the last byte of the window. -/
theorem test_image_last_byte :
    (after 1 (State.asked ready [w8 0x1FFFF#17 0x42#8])).map (fun t => t.imgRead 65535) = some 0x42#8 := by decide
/-- LOAD_IMAGE (30_encoding R82). -/
theorem test_load_image :
    loadImage [0xA5#8, 0x5A#8] = [w8 0x10000#17 0xA5#8, w8 0x10001#17 0x5A#8, w32 0x00008#17 2#32] := by decide
/-- 20_memory R58 and R60. -/
theorem test_wire_and_lanes :
    wireBits instance4 [0x80#8] = [true, false, false, false, false, false, false, false] ∧
    byteLanes 0x12345678#32 = [0x78#8, 0x56#8, 0x34#8, 0x12#8] := by decide
/-- Block reset during a session (70_reset_and_hazards R230). -/
theorem test_block_reset :
    (after 1 (State.asked lastChunk [.blockReset])).map (fun t => (t.statusWord, t.pinsWord, t.img)) =
      some (0#32, 3#32, []) := by decide

/-! ### The invariant's states -/

theorem inv_fresh : Inv fresh :=
  ⟨rfl, rfl, ⟨rfl, rfl, rfl, rfl⟩, fun h => (nomatch h),
    fun _ => ⟨⟨rfl, rfl⟩, .inl rfl, fun h => (nomatch h), fun _ => ⟨rfl, rfl, rfl, rfl, rfl, rfl⟩⟩⟩

theorem inv_ready : Inv ready :=
  ⟨rfl, rfl, ⟨rfl, rfl, rfl⟩, fun h => (nomatch h),
    fun _ => ⟨⟨rfl, rfl⟩, .inl rfl, fun h => (nomatch h), fun _ => ⟨rfl, rfl, rfl, rfl, rfl, rfl⟩⟩⟩

theorem running_begun : Running begun :=
  ⟨rfl, rfl, rfl, by decide, by decide, by decide, ⟨⟨rfl, rfl⟩, rfl, rfl, rfl, rfl⟩⟩

theorem inv_begun : Inv begun :=
  ⟨rfl, by decide, ⟨rfl, rfl, rfl⟩, fun _ => running_begun, fun h => nomatch h⟩

theorem running_lastChunk : Running lastChunk :=
  ⟨rfl, rfl, rfl, by decide, by decide, by decide, ⟨⟨rfl, rfl⟩, rfl, rfl, rfl, by decide⟩⟩

theorem inv_lastChunk : Inv lastChunk :=
  ⟨rfl, by decide, ⟨rfl, rfl, rfl⟩, fun _ => running_lastChunk, fun h => nomatch h⟩

theorem inv_failing : Inv failing :=
  ⟨rfl, by decide, ⟨rfl, rfl, rfl⟩,
    fun _ => ⟨rfl, rfl, rfl, by decide, by decide, by decide, ⟨⟨rfl, rfl⟩, rfl, .inl rfl, rfl⟩⟩, fun h => nomatch h⟩

/-- `polling` with any budget. -/
theorem inv_polling (b : BitVec 16) : Inv { polling with pollBudget := b } :=
  ⟨rfl, (by decide : Memory.wf begun.img = true), ⟨rfl, rfl, rfl⟩,
    fun _ => ⟨rfl, rfl, rfl, (by decide : 1 ≤ (10#16).toNat), Nat.le_refl _, Nat.zero_le _,
      ⟨⟨rfl, rfl⟩, ⟨rfl, rfl⟩, .inl ⟨rfl, rfl⟩⟩⟩, fun h => nomatch h⟩

/-- The environment is no part of the invariant. -/
theorem inv_answering {s : State} (h : Inv s) (xs : List Bool) (ds : List Level) : Inv (State.answering s xs ds) :=
  ⟨h.rom, h.image, h.bringUp,
    fun hr => ⟨(h.running hr).life, (h.running hr).valid, (h.running hr).outcome, (h.running hr).length,
      (h.running hr).offset, (h.running hr).polls, (h.running hr).place⟩,
    fun hr => ⟨(h.resting hr).pins, (h.resting hr).upc, (h.resting hr).report, (h.resting hr).fresh⟩⟩

/-! ### For each statement with hypotheses, a state that meets them -/

theorem witness_DecodeOfEncode : (Instr.xferc .flushing 0xFF#8 65535#16).wellFormed = true := by decide
theorem witness_EncodeOfDecode : decodeWord 0x38FF0003#32 = .ok (.xferc .flushing 0xFF#8 3#16) := by decide
theorem witness_IllegalMicroWords :
    begun.run = true ∧ BlockHasTurn begun ∧ IllegalMicroWord 0x6E000005 ∧ ¬ IllegalMicroWord 0x6E000004 := by
  refine ⟨rfl, .inl rfl, ?_, ?_⟩ <;> simp [IllegalMicroWord]
theorem witness_RomIsNeverWritten : (nextOf (step begun)).isSome = true := by decide
theorem witness_InitClauses :
    ready.life ≠ .unbound ∧ (State.answering fresh [] []).life = .unbound ∧
    (State.answering fresh [] []).busAnswer = true ∧
    ({ fresh with env := ⟨[false], [], [], 0⟩ } : State).busAnswer = false := by decide
theorem witness_FailedBringUp :
    broken.life = .bringUpFailed ∧ ¬ ResetPending broken ∧ (nextOf (step broken)).isSome = true := by
  refine ⟨rfl, ?_, by decide⟩
  rintro ⟨rest, h⟩
  cases h
/-- Every clause of CONFIGURE's statement at the ends of its range of lengths (see test_configure_lengths). -/
theorem witness_ConfigureClauses :
    fresh.life ≠ .ready ∧ ready.life = .ready ∧ (0#32).toNat = 0 ∧ 65535 < (65536#32).toNat ∧
    65535 < (0xFFFFFFFF#32).toNat ∧ 1 ≤ (1#32).toNat ∧ (65535#32).toNat ≤ 65535 := by decide
theorem witness_ConfigureForgets :
    let s := { ready with lenIn := 4#32 }
    let s' := { ready with lenIn := 4#32, outcome := .completionTimeout, polls := 9#16, upc := 15#4 }
    s.life = .ready ∧ s'.life = .ready ∧ s.run = s'.run ∧ s.lenIn = s'.lenIn ∧ s ≠ s' ∧
    (nextOf (exec .configure s)).isSome = true ∧ (nextOf (exec .configure s')).isSome = true := by decide
theorem witness_XfercClauses :
    1 ≤ (1#16).toNat ∧ 1 ≤ (65535#16).toNat ∧ (State.answering begun [true] []).xferAnswer = true ∧
    (State.answering begun [false] []).xferAnswer = false := by decide
/-- XFERI's statement with the image finished by the chunk, and with one byte left after it. -/
theorem witness_XferiClauses :
    lastChunk.offset.toNat < lastChunk.frameLen.toNat ∧
    lastChunk.offset.toNat + min 4 (lastChunk.frameLen.toNat - lastChunk.offset.toNat) = lastChunk.frameLen.toNat ∧
    ({ lastChunk with offset := 5#16 } : State).offset.toNat + 4 < lastChunk.frameLen.toNat ∧
    (State.answering lastChunk [true] []).xferAnswer = true ∧
    (State.answering lastChunk [false] []).xferAnswer = false := by decide
/-- POLL's four clauses at their boundaries, with a budget of 3: POLLS 3, 2 active, 2 inactive, 1 inactive. -/
theorem witness_PollClauses :
    polling.pollBudget.toNat ≤ (3#16).toNat ∧ (2#16).toNat < polling.pollBudget.toNat ∧
    (State.answering polling [] [true]).doneSample = polling.params.doneActive ∧
    (State.answering polling [] [false]).doneSample ≠ polling.params.doneActive ∧
    (2#16).toNat + 1 = polling.pollBudget.toNat ∧ (1#16).toNat + 1 < polling.pollBudget.toNat := by decide
theorem witness_InstructionFrames :
    (nextOf (exec (.xferi .streaming) (State.answering lastChunk [true] []))).isSome = true ∧
    Instr.xferi .streaming ≠ .init ∧ Instr.xferi .streaming ≠ .configure := by decide
theorem witness_StepRunsTheMicroWord :
    begun.run = true ∧ BlockHasTurn begun ∧ decodeMicro begun.fetch = .ok (.setpin .resetting .csN false) :=
  ⟨rfl, .inl rfl, by decide⟩
theorem witness_StepRunsTheCommand :
    let s := State.asked ready [.access (.write .w32 0#17 2#32)]
    s.run = false ∧ s.inputs = .access (.write .w32 0#17 2#32) :: [] ∧ decodeCommand 2#32 = .ok .configure := by decide
theorem witness_IdleBlock : ready.run = false ∧ BlockHasTurn ready ∧ BlockHasTurn (State.asked ready [.blockTurn]) :=
  ⟨rfl, .inl rfl, .inr ⟨[], rfl⟩⟩
theorem witness_PlacedWord :
    decodeTableWord 32 2 = some .configure ∧ decodeTableWord 32 0x46000000 = some (.xferi .streaming) := by decide
theorem witness_BlockReset : (State.asked lastChunk [.blockReset]).inputs = .blockReset :: [] := rfl
theorem witness_StatusAndPinsAccesses :
    (State.asked begun [w32 0x00004#17 7#32]).inputs = .access (.write .w32 0x00004#17 7#32) :: [] ∧
    (State.asked begun [w32 0x00020#17 7#32]).inputs = .access (.write .w32 0x00020#17 7#32) :: [] ∧
    (State.asked begun [r32 0x00020#17]).inputs = .access (.read .w32 0x00020#17) :: [] := ⟨rfl, rfl, rfl⟩
theorem witness_HostRead : (State.asked begun [r32 0x00004#17]).inputs = .access (.read .w32 0x00004#17) :: [] := rfl
/-- Each clause of 20_memory R54 at the ends of its range. -/
theorem witness_OutsideAccessRules :
    OutsideAccessRules .w8 0x00000 ∧ OutsideAccessRules .w16 0x0FFFF ∧ OutsideAccessRules .w32 0x00001 ∧
    OutsideAccessRules .w32 0x00024 ∧ OutsideAccessRules .w32 0x0FFFC ∧ OutsideAccessRules .w16 0x10000 ∧
    OutsideAccessRules .w32 0x1FFFF ∧ ¬ OutsideAccessRules .w32 0x00020 ∧ ¬ OutsideAccessRules .w8 0x10000 := by
  simp [OutsideAccessRules]
theorem witness_OutsideAccesses :
    OutsideAccessRules .w32 (0x1FFFF#17).toNat ∧
    (State.asked ready [r32 0x1FFFF#17]).inputs = .access (.read .w32 0x1FFFF#17) :: [] ∧
    (State.asked ready [w32 0x1FFFF#17 7#32]).inputs = .access (.write .w32 0x1FFFF#17 7#32) :: [] :=
  ⟨by simp [OutsideAccessRules], rfl, rfl⟩
theorem witness_WritesWhileRunning :
    let s := State.asked begun [w32 0x00008#17 99#32]
    s.run = true ∧ s.inputs = .access (.write .w32 0x00008#17 99#32) :: [] := ⟨rfl, rfl⟩
theorem witness_OperandWrites :
    (State.asked ready [w32 0x00008#17 99#32]).inputs = .access (.write .w32 0x00008#17 99#32) :: [] ∧
    (State.asked begun [w32 0x00018#17 99#32]).inputs = .access (.write .w32 0x00018#17 99#32) :: [] ∧
    ready.run = false ∧ begun.run = true := ⟨rfl, rfl, rfl, rfl⟩
theorem witness_ReservedWrites :
    (State.asked ready [w32 0x00020#17 7#32]).inputs = .access (.write .w32 0x00020#17 7#32) :: [] ∧
    (0x00020#17).toNat ∈ [0x04, 0x0C, 0x10, 0x14, 0x1C, 0x20] ∧
    (State.asked ready [w32 0#17 3#32]).inputs = .access (.write .w32 0#17 3#32) :: [] ∧
    ((0#17).toNat = 0 ∧ (3#32).toNat ≠ 1 ∧ (3#32).toNat ≠ 2) := by decide
theorem witness_ImageWrite :
    let s := State.asked ready [w8 0x1FFFF#17 0x42#8]
    s.run = false ∧ 0x10000 ≤ (0x10000#17).toNat ∧ 0x10000 ≤ (0x1FFFF#17).toNat ∧
    s.inputs = .access (.write .w8 0x1FFFF#17 ((0x42#8).setWidth 32)) :: [] := by decide
theorem witness_RestingPins : Inv ready ∧ ready.run = false ∧ ready.life = .ready ∧ Inv fresh ∧ fresh.life ≠ .ready :=
  ⟨inv_ready, rfl, rfl, inv_fresh, by decide⟩
theorem witness_WireBits : [0x80#8, 0x01#8][1]? = some 0x01#8 := by decide
theorem witness_StepKeepsInvariant :
    Inv (State.answering lastChunk [false] []) ∧ (nextOf (step (State.answering lastChunk [false] []))).isSome = true :=
  ⟨inv_answering inv_lastChunk _ _, by decide⟩
theorem witness_MemoryForm :
    let s := State.asked { ready with img := begun.img } [w8 0x10003#17 0x42#8]
    Memory.wf s.img = true ∧ (nextOf (step s)).isSome = true := by decide
theorem witness_RunningStep :
    Inv begun ∧ begun.run = true ∧ ¬ ResetPending begun ∧ (nextOf (step begun)).isSome = true := by
  refine ⟨inv_begun, rfl, ?_, by decide⟩
  rintro ⟨rest, h⟩
  cases h
theorem witness_EndingStep :
    let s := { polling with upc := 15#4, fsm := .awaitingCompletion, failPhase := .awaitingCompletion, polls := 3#16 }
    Inv s ∧ s.run = true ∧ ¬ ResetPending s ∧ (nextOf (step s)).map State.run = some false := by
  refine ⟨⟨rfl, by decide, ⟨rfl, rfl, rfl⟩, fun _ => ⟨rfl, rfl, rfl, by decide, by decide, by decide,
    ⟨⟨rfl, rfl⟩, rfl, rfl, rfl, rfl⟩⟩, fun h => nomatch h⟩, rfl, ?_, by decide⟩
  rintro ⟨rest, h⟩
  cases h
theorem witness_ChipSelect :
    Inv (State.answering lastChunk [true] []) ∧
    (nextOf (step (State.answering lastChunk [true] []))).map State.trace =
      some (lastChunk.trace ++ [.xfer [0x18#8, 0x19#8] true]) :=
  ⟨inv_answering inv_lastChunk _ _, by decide⟩
theorem witness_SessionBegins : Inv begun ∧ SessionBegins begun := ⟨inv_begun, rfl, rfl, rfl⟩

/-- A run of `n` steps from `s` that ends with RUN = 0 and the report `r`. -/
theorem run_witness {n : Nat} {s : State} {r : SessionOutcome × Fsm}
    (h : (after n s).map (fun t => (t.run, t.outcome, t.failPhase)) = some (false, r.1, r.2)) :
    ∃ t, RunsTo n s t ∧ t.run = false ∧ t.outcome = r.1 ∧ t.failPhase = r.2 := by
  cases ht : after n s with
  | none => simp [ht] at h
  | some t =>
    simp only [ht, Option.map_some, Option.some.injEq, Prod.mk.injEq] at h
    exact ⟨t, runsTo_of_after ht, h.1, h.2.1, h.2.2⟩

/-- Three chunks of 4, 4 and 2 bytes, then DONE at the first sample. -/
theorem witness_DoneSession :
    Inv (State.answering begun [true, true, true, true, true] [true]) ∧
    SessionBegins (State.answering begun [true, true, true, true, true] [true]) ∧
    ∃ t, RunsTo 15 (State.answering begun [true, true, true, true, true] [true]) t ∧
      t.run = false ∧ t.outcome = .done ∧ t.failPhase = .idle :=
  ⟨inv_answering inv_begun _ _, ⟨rfl, rfl, rfl⟩, run_witness (r := (.done, .idle)) (by decide)⟩
/-- The second of three chunks fails (95_test_vectors S5). -/
theorem witness_FailedChunk :
    Inv (State.answering begun [true, true, false] []) ∧ SessionBegins (State.answering begun [true, true, false] []) ∧
    ∃ t, RunsTo 12 (State.answering begun [true, true, false] []) t ∧
      t.run = false ∧ t.outcome = .transportFailure ∧ t.failPhase = .streaming :=
  ⟨inv_answering inv_begun _ _, ⟨rfl, rfl, rfl⟩, run_witness (r := (.transportFailure, .streaming)) (by decide)⟩
/-- Three inactive samples with a budget of 3 (95_test_vectors V-PO-3). -/
theorem witness_Timeout :
    ∃ t, RunsTo 17 (State.answering begun [true, true, true, true, true] [false, false, false]) t ∧
      t.run = false ∧ t.outcome = .completionTimeout ∧ t.failPhase = .awaitingCompletion :=
  run_witness (r := (.completionTimeout, .awaitingCompletion)) (by decide)
theorem witness_ZeroBudget :
    let s := { polling with pollBudget := 0#16 }
    Inv s ∧ s.run = true ∧ s.inputs = [] ∧ s.upc = 11#4 ∧ s.pollBudget = 0#16 :=
  ⟨inv_polling 0#16, rfl, rfl, rfl, rfl⟩
theorem witness_FailurePath : Inv failing ∧ failing.run = true ∧ failing.inputs = [] ∧ failing.upc = 13#4 :=
  ⟨inv_failing, rfl, rfl, rfl⟩
/-- A timing of the Resetting sequence, one tick a microsecond, each pin write taking one tick. -/
theorem witness_ResetPulse :
    let timed : List Stamped :=
      [⟨.setPin .csN false, 0, 1⟩, ⟨.setPin .rstN false, 1, 2⟩, ⟨.delay 200, 2, 202⟩, ⟨.setPin .rstN true, 202, 203⟩,
        ⟨.delay 1200, 203, 1403⟩, ⟨.setPin .csN true, 1403, 1404⟩]
    Inv begun ∧ SessionBegins begun ∧
    (after 6 begun).map State.trace = some (begun.trace ++ timed.map Stamped.event) ∧
    TimingOk 1 begun.params.busHz timed := by
  refine ⟨inv_begun, ⟨rfl, rfl, rfl⟩, by decide, ?_⟩
  simp [TimingOk, holdUs, clockedBytes]
/-- Two states that differ in an image byte beyond the frame. -/
theorem witness_BytesBeyondTheFrame :
    let s' := { begun with img := begun.img ++ [(10, 0xFF#8)] }
    Inv begun ∧ begun.run = true ∧ begun.inputs = [] ∧ s' ≠ begun ∧
    s' = { begun with img := s'.img, imgEpoch := s'.imgEpoch } ∧
    (∀ a : Nat, a < begun.frameLen.toNat → s'.imgRead a = begun.imgRead a) ∧ (after 1 begun).isSome = true := by
  refine ⟨inv_begun, rfl, rfl, by decide, rfl, ?_, by decide⟩
  intro a ha
  have ha : a < 10 := ha
  interval_cases a <;> rfl
theorem witness_NextSession :
    let s := State.asked { ready with lenIn := 65535#32 } [.access (.write .w32 0#17 (encode .configure))]
    Inv s ∧ s.run = false ∧ s.life = .ready ∧ s.inputs = [.access (.write .w32 0#17 (encode .configure))] ∧
    1 ≤ s.lenIn.toNat ∧ s.lenIn.toNat ≤ 65535 := by
  refine ⟨⟨rfl, rfl, ⟨rfl, rfl, rfl⟩, fun h => (nomatch h),
    fun _ => ⟨⟨rfl, rfl⟩, .inl rfl, fun h => (nomatch h), fun _ => ⟨rfl, rfl, rfl, rfl, rfl, rfl⟩⟩⟩, rfl, rfl, rfl, ?_, ?_⟩ <;>
    decide

/-- INIT, END and a rejected CONFIGURE leave UPC, at its largest value. -/
theorem witness_UpcIsLeft :
    let s := { ready with upc := 15#4, lenIn := 65536#32 }
    65535 < s.lenIn.toNat ∧ (nextOf (exec .configure s)).map State.upc = some 15#4 ∧
    (nextOf (exec .init s)).map State.upc = some 15#4 ∧
    (nextOf (exec (.endOp .failed .completionTimeout) s)).map State.upc = some 15#4 := by decide
/-- The image window's first and last addresses. -/
theorem witness_ImageReads :
    BitVec.ofNat 17 (0x10000 + 0) = 0x10000#17 ∧ BitVec.ofNat 17 (0x10000 + 65535) = 0x1FFFF#17 := by decide
/-- A finished session, and an INIT the host writes after it. -/
theorem witness_ReportStays :
    let s := State.asked { ready with
      fsm := .done, outcomeValid := true, upc := 12#4, polls := 1#16, frameLen := 10#16, offset := 10#16 } [hostInit]
    Inv s ∧ s.run = false ∧ s.outcomeValid = true ∧ ¬ ResetPending s ∧
    (∀ rest : List Input, s.inputs ≠ .access (.write .w32 0#17 (encode .configure)) :: rest) ∧
    (nextOf (step s)).isSome = true := by
  refine ⟨⟨rfl, rfl, ⟨rfl, rfl, rfl⟩, fun h => (nomatch h),
    fun _ => ⟨⟨rfl, rfl⟩, .inr (.inl rfl), fun _ => ⟨rfl, ⟨rfl, rfl⟩, rfl, by decide⟩, fun h => nomatch h⟩⟩,
    rfl, rfl, ?_, ?_, by decide⟩
  · rintro ⟨rest, h⟩
    cases h
  · intro rest h
    injection h with h _
    exact absurd h (by decide)
/-- An inactive sample, the wait, and an active one, one tick a microsecond, each sample taking one tick. -/
theorem witness_PollInterval :
    let s := State.answering polling [] [false, true]
    let timed : List Stamped := [⟨.sample false, 0, 1⟩, ⟨.wait 1000, 1, 1001⟩, ⟨.sample true, 1001, 1002⟩]
    Inv s ∧ s.run = true ∧ s.inputs = [] ∧ s.upc = 11#4 ∧ (after 1 s).map State.upc = some 11#4 ∧
    (after 2 s).map State.trace = some (s.trace ++ timed.map Stamped.event) ∧ TimingOk 1 s.params.busHz timed := by
  refine ⟨inv_answering (inv_polling 3#16) _ _, rfl, rfl, rfl, by decide, by decide, ?_⟩
  simp [TimingOk, holdUs, clockedBytes]

end Sys2Proof.Tests
end

section
/-! PROOFS. Progress (60_exceptions R206): the spec's one stop is the illegal micro-word, no well-formed instruction
meets it, and neither a command word nor a word of the fixed ROM is ill-formed. -/

namespace Sys2Proof.Machine

/-! ### Well-formed instructions answer a next state -/

/-- With a COUNT that has an encoding, XFERC does not fault (30_encoding R78). -/
theorem execXferc_of_count_ne_zero (phase : Fsm) (fill : Byte) {count : BitVec 16} (h : count ≠ 0#16) (s : State) :
    execXferc phase fill count s = .next (sendFill fill count (s.setFsm phase)) :=
  if_neg h

/-- XFERC alone has an operand that stops it; every other meaning is a next state by its definition. -/
theorem exec_next_of_wellFormed {i : Instr} (h : i.wellFormed = true) (s : State) :
    ∃ t : State, exec i s = .next t := by
  cases i with
  | xferc phase fill count =>
    have hcount : count ≠ 0#16 := by simpa [Instr.wellFormed] using h
    exact ⟨_, execXferc_of_count_ne_zero phase fill hcount s⟩
  | init => exact ⟨_, rfl⟩
  | configure => exact ⟨_, rfl⟩
  | setpin phase pin level => exact ⟨_, rfl⟩
  | delay phase t => exact ⟨_, rfl⟩
  | xferi phase => exact ⟨_, rfl⟩
  | poll phase => exact ⟨_, rfl⟩
  | endOp phase code => exact ⟨_, rfl⟩

/-! ### The block's turn -/

/-- P_FLUSH_BYTES is the one COUNT of the ROM that an instance chooses; 00_scope R7 keeps it from 0. -/
theorem flushBytes_ne_zero (p : Params) : p.flushBytes ≠ 0#16 := by
  obtain ⟨-, -, -, -, hflush, -, -⟩ := Params.bounds p
  intro h0
  simp [h0] at hflush

theorem romProgram_wellFormed (p : Params) (k : Nat) (hk : k < 16) : (romProgram p)[k].wellFormed = true := by
  obtain hbefore | rfl | hafter := Nat.lt_trichotomy k 10
  · interval_cases k <;> rfl
  · simpa [romProgram, Instr.wellFormed] using flushBytes_ne_zero p
  · interval_cases k <;> rfl

/-- An idle block keeps its state (log entry 4); a running one runs a word of the fixed ROM. -/
theorem blockTurn_next_of_rom {s : State} (hrom : s.rom = romOf s.params) : ∃ t : State, blockTurn s = .next t := by
  cases hrun : s.run with
  | false => exact ⟨s, by simp [blockTurn, hrun]⟩
  | true =>
    rw [blockTurn_rom hrun hrom]
    exact exec_next_of_wellFormed (romProgram_wellFormed s.params _ _) s

/-! ### Host accesses -/

theorem decodeCommand_wellFormed {c : Word} {i : Instr} (h : decodeCommand c = .ok i) : i.wellFormed = true := by
  obtain ⟨-, rfl⟩ | ⟨-, rfl⟩ := decodeCommand_ok_cases h
  · rfl
  · rfl

/-- A write to CMD runs a command or is ignored (40_host_commands R100, 30_encoding R73). -/
theorem writeCommand_next (c : Word) (s : State) : ∃ t : State, writeCommand c s = .next t := by
  unfold writeCommand
  split
  · next i hi => exact exec_next_of_wellFormed (decodeCommand_wellFormed hi) s
  · exact ⟨s, rfl⟩

theorem writeRegister_next (address : BitVec 17) (value : Word) (s : State) :
    ∃ t : State, writeRegister address value s = .next t := by
  unfold writeRegister
  split
  · exact writeCommand_next value s
  · exact ⟨_, rfl⟩
  · exact ⟨_, rfl⟩
  · exact ⟨s, rfl⟩

theorem hostWrite_next (width : Width) (address : BitVec 17) (value : Word) (s : State) :
    ∃ t : State, hostWrite width address value s = .next t := by
  unfold hostWrite
  split
  · exact ⟨s, rfl⟩
  · split
    · exact ⟨_, rfl⟩
    · split
      · exact writeRegister_next address value s
      · exact ⟨s, rfl⟩

/-- No host access stops the block, whatever its state (20_memory R54). -/
theorem hostAccess_next (a : HostAccess) (s : State) : ∃ t : State, hostAccess a s = .next t := by
  cases a with
  | read width address => exact ⟨_, rfl⟩
  | write width address value => exact hostWrite_next width address value s

/-! ### One step -/

/-- Of the whole invariant, progress rests on the ROM alone. -/
theorem step_next_of_rom {s : State} (hrom : s.rom = romOf s.params) : ∃ t : State, step s = .next t := by
  have hturn : ∃ t : State, blockTurn s.popInput = .next t := blockTurn_next_of_rom (s := s.popInput) hrom
  unfold step
  split
  · next a rest _ => exact hostAccess_next a s.popInput
  · exact ⟨_, rfl⟩
  · exact hturn
  · exact hturn

/-- Settles O39: the invariant holds the ROM in place, and with it every step answers a next state. -/
theorem noFaultUnderTheInvariant : Obligations.NoFaultUnderTheInvariant := by
  unfold Obligations.NoFaultUnderTheInvariant
  intro s hinv
  exact step_next_of_rom hinv.rom

end Sys2Proof.Machine
end

section
/-! PROOFS. The state family, the decoder: what each form of micro-word decodes to (30_encoding R76, R80). -/

namespace Sys2Proof

theorem decodeSetpin_ok {phase : Fsm} {operand : BitVec 24} {i : Instr} (h : decodeSetpin phase operand = .ok i) :
    i = .setpin phase (OutPin.ofCode operand[4]) operand[0] := by
  unfold decodeSetpin at h
  split at h
  · exact (Except.ok.inj h).symm
  · cases h

theorem decodeXferc_ok {phase : Fsm} {operand : BitVec 24} {i : Instr} (h : decodeXferc phase operand = .ok i) :
    i = .xferc phase (operand.extractLsb' 16 8) (operand.extractLsb' 0 16) := by
  unfold decodeXferc at h
  split at h
  · cases h
  · exact (Except.ok.inj h).symm

theorem decodeNoOperand_ok {i j : Instr} {operand : BitVec 24} (h : decodeNoOperand j operand = .ok i) : i = j := by
  unfold decodeNoOperand at h
  split at h
  · exact (Except.ok.inj h).symm
  · cases h

theorem decodeEnd_ok {phase : Fsm} {operand : BitVec 24} {i : Instr} (h : decodeEnd phase operand = .ok i) :
    ∃ code, i = .endOp phase code := by
  unfold decodeEnd at h
  split at h
  · split at h
    · next code _ => exact ⟨code, (Except.ok.inj h).symm⟩
    · cases h
  · cases h

/-- No micro-word decodes to a host command (30_encoding R72, R75). -/
theorem decodeMicro_ne_command {w : Word} {i : Instr} (h : decodeMicro w = .ok i) : i ≠ .init ∧ i ≠ .configure := by
  unfold decodeMicro at h
  split at h
  · cases h
  · split at h
    · obtain rfl := decodeSetpin_ok h
      exact ⟨nofun, nofun⟩
    · obtain rfl := Except.ok.inj h
      exact ⟨nofun, nofun⟩
    · obtain rfl := decodeXferc_ok h
      exact ⟨nofun, nofun⟩
    · obtain rfl := decodeNoOperand_ok h
      exact ⟨nofun, nofun⟩
    · obtain rfl := decodeNoOperand_ok h
      exact ⟨nofun, nofun⟩
    · obtain ⟨code, rfl⟩ := decodeEnd_ok h
      exact ⟨nofun, nofun⟩
    · cases h

end Sys2Proof
end

section
/-! PROOFS. The state family, what an instruction does: for each operation the cases of its effect, written out once;
what no instruction touches (10_state R26, R30, 20_memory R52); and which instructions write each register (R22 to R34). -/

namespace Sys2Proof.Machine

/-! ### The cases of each operation's effect -/

/-- INIT's bring-up ends with the pins set up or with the failure recorded (40_host_commands R102). -/
theorem bringUp_cases (s : State) :
    (s.busAnswer = true ∧ bringUp s = { s with
      auxclkOn := true, busAcq := true, csN := true, rstN := true, oe := true, fsm := .idle, life := .ready,
      env := s.takeBusAnswer.env,
      trace := s.trace ++ [.auxClock s.params.auxClkHz] ++ [.busOpen s.params.busHz .mode0 true] ++ [.pinSetup] }) ∨
    (s.busAnswer = false ∧ bringUp s = { s with
      auxclkOn := true, life := .bringUpFailed, env := s.takeBusAnswer.env,
      trace := s.trace ++ [.auxClock s.params.auxClkHz] ++ [.busOpen s.params.busHz .mode0 false] }) := by
  unfold bringUp
  cases hanswer : s.busAnswer with
  | true => exact .inl ⟨rfl, by simp [requestBus_eq, setUpPins_eq, hanswer]⟩
  | false => exact .inr ⟨rfl, by simp [requestBus_eq, hanswer]⟩

/-- CONFIGURE's checks reject an empty or an oversized length and accept every other (40_host_commands R108 to R110). -/
theorem validateInput_cases (s : State) :
    (s.lenIn.toNat = 0 ∧ validateInput s = rejectInput .emptyInput s) ∨
    (65535 < s.lenIn.toNat ∧ validateInput s = rejectInput .oversizedInput s) ∨
    (1 ≤ s.lenIn.toNat ∧ s.lenIn.toNat ≤ 65535 ∧ validateInput s = acceptInput s) := by
  have hempty : s.lenEmpty = true ↔ s.lenIn.toNat = 0 := by
    simp [State.lenEmpty, ← BitVec.toNat_inj]
  have hover : s.lenOversized = true ↔ 65535 < s.lenIn.toNat := by
    exact decide_eq_true_iff
  unfold validateInput
  split
  · next h => exact .inl ⟨hempty.mp h, rfl⟩
  · next h0 =>
    rw [hempty] at h0
    split
    · next h => exact .inr (.inl ⟨hover.mp h, rfl⟩)
    · next h =>
      rw [hover] at h
      exact .inr (.inr ⟨by omega, by omega, rfl⟩)

/-- XFERC's exchange advances UPC, or enters the failure path (42_framer R141). -/
theorem sendFill_cases (fill : Byte) (count : BitVec 16) (s : State) :
    (s.xferAnswer = true ∧ sendFill fill count s = { s with
      upc := s.upc + 1#4, env := s.takeXferAnswer.env, trace := s.trace ++ [.xfer (fillBytes fill count) true] }) ∨
    (s.xferAnswer = false ∧ sendFill fill count s = { s with
      failPhase := s.fsm, upc := 13#4, env := s.takeXferAnswer.env,
      trace := s.trace ++ [.xfer (fillBytes fill count) false] }) := by
  unfold sendFill
  cases hanswer : s.xferAnswer with
  | true => exact .inl ⟨rfl, by simp [exchange_eq, State.advance_eq, hanswer]⟩
  | false => exact .inr ⟨rfl, by simp [exchange_eq, failTransport_eq, hanswer]⟩

/-- XFERI's exchange counts the chunk in OFFSET and advances UPC exactly when the image is sent, or enters the failure
path with OFFSET as it was (42_framer R143). -/
theorem sendChunk_cases (s : State) :
    (s.xferAnswer = true ∧ s.offset + s.chunkLength = s.frameLen ∧ sendChunk s = { s with
      offset := s.offset + s.chunkLength, upc := s.upc + 1#4, env := s.takeXferAnswer.env,
      trace := s.trace ++ [.xfer s.chunkBytes true] }) ∨
    (s.xferAnswer = true ∧ s.offset + s.chunkLength ≠ s.frameLen ∧ sendChunk s = { s with
      offset := s.offset + s.chunkLength, env := s.takeXferAnswer.env,
      trace := s.trace ++ [.xfer s.chunkBytes true] }) ∨
    (s.xferAnswer = false ∧ sendChunk s = { s with
      failPhase := s.fsm, upc := 13#4, env := s.takeXferAnswer.env,
      trace := s.trace ++ [.xfer s.chunkBytes false] }) := by
  unfold sendChunk
  cases hanswer : s.xferAnswer with
  | false => exact .inr (.inr ⟨rfl, by simp [exchange_eq, failTransport_eq, hanswer]⟩)
  | true =>
    by_cases hsent : s.offset + s.chunkLength = s.frameLen
    · exact .inl ⟨rfl, hsent,
        by simp [exchange_eq, chunkSent, State.imageSent, State.advance_eq, hanswer, hsent]⟩
    · exact .inr (.inl ⟨rfl, hsent, by simp [exchange_eq, chunkSent, State.imageSent, hanswer, hsent]⟩)

/-- POLL times out without a sample, or takes one and then advances, times out or waits (43_poller R160). -/
theorem pollOnce_cases (s : State) :
    (s.pollBudget.toNat ≤ s.polls.toNat ∧ pollOnce s = { s with failPhase := s.fsm, upc := 15#4 }) ∨
    (s.polls.toNat < s.pollBudget.toNat ∧ s.doneSample = s.params.doneActive ∧ pollOnce s = { s with
      doneLast := s.doneSample, polls := s.polls + 1#16, upc := s.upc + 1#4, env := s.takeDoneSample.env,
      trace := s.trace ++ [.sample s.doneSample] }) ∨
    (s.polls.toNat < s.pollBudget.toNat ∧ s.doneSample ≠ s.params.doneActive ∧ s.polls + 1#16 = s.pollBudget ∧
      pollOnce s = { s with
        doneLast := s.doneSample, polls := s.polls + 1#16, failPhase := s.fsm, upc := 15#4,
        env := s.takeDoneSample.env, trace := s.trace ++ [.sample s.doneSample] }) ∨
    (s.polls.toNat < s.pollBudget.toNat ∧ s.doneSample ≠ s.params.doneActive ∧ s.polls + 1#16 ≠ s.pollBudget ∧
      pollOnce s = { s with
        doneLast := s.doneSample, polls := s.polls + 1#16, env := s.takeDoneSample.env,
        trace := s.trace ++ [.sample s.doneSample] ++ [.wait s.params.pollIntervalUs] }) := by
  have hused : s.budgetUsed = true ↔ s.pollBudget.toNat ≤ s.polls.toNat := by
    simp [State.budgetUsed, BitVec.le_def]
  unfold pollOnce
  split
  · next h => exact .inl ⟨hused.mp h, rfl⟩
  · next h =>
    have hleft : s.polls.toNat < s.pollBudget.toNat := by rw [hused] at h; omega
    obtain ⟨hactive, heq⟩ | ⟨hactive, hlast, heq⟩ | ⟨hactive, hmore, heq⟩ :=
      judgeSample_cases s.doneSample (takeSample s)
    · exact .inr (.inl ⟨hleft, hactive, heq⟩)
    · exact .inr (.inr (.inl ⟨hleft, hactive, hlast, heq⟩))
    · exact .inr (.inr (.inr ⟨hleft, hactive, hmore, heq⟩))

/-! ### The answers of exec -/

/-- INIT brings the block up with LIFE = Unbound, and else does nothing (40_host_commands R102, R103). -/
theorem exec_init_next_cases {s t : State} (h : exec .init s = .next t) :
    (s.life = .unbound ∧ t = bringUp s) ∨ (s.life ≠ .unbound ∧ t = s) := by
  obtain rfl := Host.Outcome.next.inj h
  cases hlife : s.life with
  | unbound => exact .inl ⟨rfl, rfl⟩
  | ready => exact .inr ⟨nofun, rfl⟩
  | bringUpFailed => exact .inr ⟨nofun, rfl⟩

/-- CONFIGURE does nothing unless LIFE = Ready; it then rejects the input, with UPC and RUN as they were, or accepts it
(40_host_commands R107 to R110). -/
theorem exec_configure_next_cases {s t : State} (h : exec .configure s = .next t) :
    (s.life ≠ .ready ∧ t = s) ∨
    (s.life = .ready ∧ ∃ o : SessionOutcome,
      ((o = .emptyInput ∧ s.lenIn.toNat = 0) ∨ (o = .oversizedInput ∧ 65535 < s.lenIn.toNat)) ∧
      t = { s with
        fsm := .failed, outcome := o, outcomeValid := true, failPhase := .idle, offset := 0#16, polls := 0#16,
        frameLen := 0#16, trace := s.trace ++ [.finish o] }) ∨
    (s.life = .ready ∧ 1 ≤ s.lenIn.toNat ∧ s.lenIn.toNat ≤ 65535 ∧
      t = { s with
        fsm := .resetting, outcome := .done, outcomeValid := false, failPhase := .idle, offset := 0#16, polls := 0#16,
        frameLen := s.lenIn.setWidth 16, upc := 0#4, run := true }) := by
  have h : (if s.life = .ready then validateInput (beginSession s) else s) = t := Host.Outcome.next.inj h
  split at h
  · next hlife =>
    obtain ⟨hlen, heq⟩ | ⟨hlen, heq⟩ | ⟨hlow, hhigh, heq⟩ := validateInput_cases (beginSession s)
    · exact .inr (.inl ⟨hlife, _, .inl ⟨rfl, hlen⟩, h.symm.trans heq⟩)
    · exact .inr (.inl ⟨hlife, _, .inr ⟨rfl, hlen⟩, h.symm.trans heq⟩)
    · exact .inr (.inr ⟨hlife, hlow, hhigh, h.symm.trans heq⟩)
  · next hlife => exact .inl ⟨hlife, h.symm⟩

/-- An XFERC that answers a next state has made its exchange in its phase (42_framer R141). -/
theorem exec_xferc_next {phase : Fsm} {fill : Byte} {count : BitVec 16} {s t : State}
    (h : exec (.xferc phase fill count) s = .next t) : t = sendFill fill count (s.setFsm phase) := by
  have h : execXferc phase fill count s = .next t := h
  by_cases hcount : count = 0#16
  · simp [execXferc, hcount] at h
  · rw [execXferc_of_count_ne_zero phase fill hcount] at h
    exact (Host.Outcome.next.inj h).symm

/-! ### What no instruction touches -/

/-- The image buffer, the host's registers and what lies outside the block are the same in both states. -/
structure HostSideKept (s t : State) : Prop where
  img : t.img = s.img
  imgEpoch : t.imgEpoch = s.imgEpoch
  lenIn : t.lenIn = s.lenIn
  pollBudget : t.pollBudget = s.pollBudget
  rom : t.rom = s.rom
  params : t.params = s.params
  inputs : t.inputs = s.inputs
  hostReads : t.hostReads = s.hostReads

theorem HostSideKept.refl (s : State) : HostSideKept s s := ⟨rfl, rfl, rfl, rfl, rfl, rfl, rfl, rfl⟩

theorem HostSideKept.trans {s t u : State} (h : HostSideKept s t) (k : HostSideKept t u) : HostSideKept s u :=
  ⟨k.img.trans h.img, k.imgEpoch.trans h.imgEpoch, k.lenIn.trans h.lenIn, k.pollBudget.trans h.pollBudget,
    k.rom.trans h.rom, k.params.trans h.params, k.inputs.trans h.inputs, k.hostReads.trans h.hostReads⟩

theorem HostSideKept.imgRead {s t : State} (h : HostSideKept s t) (a : Nat) : t.imgRead a = s.imgRead a :=
  State.imgRead_congr h.img h.imgEpoch a

theorem bringUp_keeps_hostSide (s : State) : HostSideKept s (bringUp s) := by
  obtain ⟨-, h⟩ | ⟨-, h⟩ := bringUp_cases s
  all_goals exact h ▸ ⟨rfl, rfl, rfl, rfl, rfl, rfl, rfl, rfl⟩

theorem sendFill_keeps_hostSide (fill : Byte) (count : BitVec 16) (s : State) :
    HostSideKept s (sendFill fill count s) := by
  obtain ⟨-, h⟩ | ⟨-, h⟩ := sendFill_cases fill count s
  all_goals exact h ▸ ⟨rfl, rfl, rfl, rfl, rfl, rfl, rfl, rfl⟩

theorem sendChunk_keeps_hostSide (s : State) : HostSideKept s (sendChunk s) := by
  obtain ⟨-, -, h⟩ | ⟨-, -, h⟩ | ⟨-, h⟩ := sendChunk_cases s
  all_goals exact h ▸ ⟨rfl, rfl, rfl, rfl, rfl, rfl, rfl, rfl⟩

theorem pollOnce_keeps_hostSide (s : State) : HostSideKept s (pollOnce s) := by
  obtain ⟨-, h⟩ | ⟨-, -, h⟩ | ⟨-, -, -, h⟩ | ⟨-, -, -, h⟩ := pollOnce_cases s
  all_goals exact h ▸ ⟨rfl, rfl, rfl, rfl, rfl, rfl, rfl, rfl⟩

theorem setFsm_keeps_hostSide (phase : Fsm) (s : State) : HostSideKept s (s.setFsm phase) :=
  ⟨rfl, rfl, rfl, rfl, rfl, rfl, rfl, rfl⟩

theorem exec_keeps_hostSide {i : Instr} {s t : State} (h : exec i s = .next t) : HostSideKept s t := by
  cases i with
  | init =>
    obtain ⟨-, rfl⟩ | ⟨-, rfl⟩ := exec_init_next_cases h
    · exact bringUp_keeps_hostSide s
    · exact .refl t
  | configure =>
    obtain ⟨-, rfl⟩ | ⟨-, o, -, rfl⟩ | ⟨-, -, -, rfl⟩ := exec_configure_next_cases h
    · exact .refl t
    · exact ⟨rfl, rfl, rfl, rfl, rfl, rfl, rfl, rfl⟩
    · exact ⟨rfl, rfl, rfl, rfl, rfl, rfl, rfl, rfl⟩
  | setpin phase pin level =>
    obtain rfl := Host.Outcome.next.inj h
    cases pin <;> exact ⟨rfl, rfl, rfl, rfl, rfl, rfl, rfl, rfl⟩
  | delay phase d =>
    obtain rfl := Host.Outcome.next.inj h
    exact ⟨rfl, rfl, rfl, rfl, rfl, rfl, rfl, rfl⟩
  | xferc phase fill count =>
    obtain rfl := exec_xferc_next h
    exact (setFsm_keeps_hostSide phase s).trans (sendFill_keeps_hostSide fill count _)
  | xferi phase =>
    obtain rfl := Host.Outcome.next.inj h
    exact (setFsm_keeps_hostSide phase s).trans (sendChunk_keeps_hostSide _)
  | poll phase =>
    obtain rfl := Host.Outcome.next.inj h
    exact (setFsm_keeps_hostSide phase s).trans (pollOnce_keeps_hostSide _)
  | endOp phase code =>
    obtain rfl := Host.Outcome.next.inj h
    exact ⟨rfl, rfl, rfl, rfl, rfl, rfl, rfl, rfl⟩

/-- Settles O17: every operation's effect leaves the image and the host's side alone. -/
theorem instructionsLeaveImageAndHostRegisters : Obligations.InstructionsLeaveImageAndHostRegisters := by
  unfold Obligations.InstructionsLeaveImageAndHostRegisters
  intro i s t h
  have hkept := exec_keeps_hostSide h
  exact ⟨hkept.imgRead, hkept.img, hkept.imgEpoch, hkept.lenIn, hkept.pollBudget, hkept.rom, hkept.params,
    hkept.inputs, hkept.hostReads⟩

/-! ### The writers of each register -/

/-- Settles O18: the registers that each operation's effect writes. -/
theorem registersHaveOnlyTheirWriters : Obligations.RegistersHaveOnlyTheirWriters := by
  unfold Obligations.RegistersHaveOnlyTheirWriters
  intro i s t h
  cases i with
  | init =>
    obtain ⟨-, rfl⟩ | ⟨-, rfl⟩ := exec_init_next_cases h
    · obtain ⟨-, heq⟩ | ⟨-, heq⟩ := bringUp_cases s
      all_goals simp [heq]
    · simp
  | configure =>
    obtain ⟨-, rfl⟩ | ⟨-, o, -, rfl⟩ | ⟨hlife, hlow, hhigh, rfl⟩ := exec_configure_next_cases h
    · simp
    · simp
    · have hlegal : ¬ (s.life ≠ .ready ∨ s.lenIn.toNat = 0 ∨ 65535 < s.lenIn.toNat) := by
        rintro (hother | hzero | hover)
        · exact hother hlife
        · omega
        · omega
      simp [hlegal]
  | setpin phase pin level =>
    obtain rfl := Host.Outcome.next.inj h
    cases pin with
    | csN => simp [State.advance_eq]
    | rstN => simp [State.advance_eq]
  | delay phase d =>
    obtain rfl := Host.Outcome.next.inj h
    simp [State.advance_eq]
  | xferc phase fill count =>
    obtain rfl := exec_xferc_next h
    obtain ⟨-, heq⟩ | ⟨-, heq⟩ := sendFill_cases fill count (s.setFsm phase)
    all_goals simp [heq]
  | xferi phase =>
    obtain rfl := Host.Outcome.next.inj h
    obtain ⟨-, -, heq⟩ | ⟨-, -, heq⟩ | ⟨-, heq⟩ := sendChunk_cases (s.setFsm phase)
    all_goals simp [heq]
  | poll phase =>
    obtain rfl := Host.Outcome.next.inj h
    obtain ⟨-, heq⟩ | ⟨-, -, heq⟩ | ⟨-, -, -, heq⟩ | ⟨-, -, -, heq⟩ := pollOnce_cases (s.setFsm phase)
    all_goals simp [heq]
  | endOp phase code =>
    obtain rfl := Host.Outcome.next.inj h
    simp [finishSession_eq]

/-- INIT alone writes LIFE, OE, AUXCLK_ON and BUS_ACQ (10_state R22, R33, R34). -/
theorem exec_keeps_bringUp {i : Instr} {s t : State} (h : exec i s = .next t) (hinit : i ≠ .init) :
    t.life = s.life ∧ t.oe = s.oe ∧ t.auxclkOn = s.auxclkOn ∧ t.busAcq = s.busAcq := by
  obtain ⟨hkept, -⟩ := registersHaveOnlyTheirWriters i s t h
  exact hkept hinit

/-- CONFIGURE and END alone write RUN and the outcome (10_state R24, R31). -/
theorem exec_keeps_session {i : Instr} {s t : State} (h : exec i s = .next t) (hconfigure : i ≠ .configure)
    (hend : ∀ phase code, i ≠ .endOp phase code) :
    t.run = s.run ∧ t.outcome = s.outcome ∧ t.outcomeValid = s.outcomeValid := by
  obtain ⟨-, -, -, hkept, -⟩ := registersHaveOnlyTheirWriters i s t h
  exact hkept hconfigure hend

/-- CONFIGURE alone writes FRAME_LEN (10_state R27). -/
theorem exec_keeps_frameLen {i : Instr} {s t : State} (h : exec i s = .next t) (hconfigure : i ≠ .configure) :
    t.frameLen = s.frameLen := by
  obtain ⟨-, -, -, -, hkept, -⟩ := registersHaveOnlyTheirWriters i s t h
  exact hkept hconfigure

/-- CONFIGURE and XFERI alone write OFFSET (10_state R28). -/
theorem exec_keeps_offset {i : Instr} {s t : State} (h : exec i s = .next t) (hconfigure : i ≠ .configure)
    (hxferi : ∀ phase, i ≠ .xferi phase) : t.offset = s.offset := by
  obtain ⟨-, -, -, -, -, hkept, -⟩ := registersHaveOnlyTheirWriters i s t h
  exact hkept hconfigure hxferi

/-- CONFIGURE and POLL alone write POLLS (10_state R29). -/
theorem exec_keeps_polls {i : Instr} {s t : State} (h : exec i s = .next t) (hconfigure : i ≠ .configure)
    (hpoll : ∀ phase, i ≠ .poll phase) : t.polls = s.polls := by
  obtain ⟨-, -, -, -, -, -, hkept, -⟩ := registersHaveOnlyTheirWriters i s t h
  exact hkept hconfigure hpoll

end Sys2Proof.Machine
end

section
/-! PROOFS. The state family, host accesses: where an access falls, the words of STATUS, PINS and PARAM field by field
(10_state R37 to R39), what each read returns (20_memory R51, R52), and the writes that are ignored (10_state R37 to R40,
30_encoding R73). -/

namespace Sys2Proof.Machine

/-! ### Where an access falls (20_memory R51, R53) -/

/-- The image window is the upper half of the address space. -/
theorem inImageWindow_iff (a : BitVec 17) : inImageWindow a = true ↔ 0x10000 ≤ a.toNat := by
  have hmsb : inImageWindow a = a.msb := rfl
  rw [hmsb, BitVec.msb_eq_decide]
  exact decide_eq_true_iff

theorem inImageWindow_eq_false {a : BitVec 17} (h : a.toNat < 0x10000) : inImageWindow a = false := by
  rw [← Bool.not_eq_true, inImageWindow_iff]
  omega

/-- The address of an image byte gives its index back (20_memory R52). -/
theorem imageIndex_toNat_of_le {i : Nat} (h : i ≤ 65535) :
    (imageIndex (BitVec.ofNat 17 (0x10000 + i))).toNat = i := by
  simp only [imageIndex, BitVec.toNat_setWidth, BitVec.toNat_ofNat]
  omega

/-- An 8-bit read of an image address returns the byte, zero-extended (log entry 19). -/
theorem readValue_image (s : State) {i : Nat} (h : i ≤ 65535) :
    s.readValue .w8 (BitVec.ofNat 17 (0x10000 + i)) = (s.imgRead i).setWidth 32 := by
  have hin : inImageWindow (BitVec.ofNat 17 (0x10000 + i)) = true := by
    rw [inImageWindow_iff, BitVec.toNat_ofNat]
    omega
  simp [State.readValue, hin, imageAccess, imageIndex_toNat_of_le h]

/-! ### The words the host reads -/

/-- STATUS bit by bit: the fields do not overlap, and bits 7, 11, 15 and 31..20 are 0 (10_state R37). -/
theorem statusWord_layout (s : State) :
    s.statusWord.extractLsb' 0 3 = s.fsm.code ∧ s.statusWord[3] = s.run ∧
      s.statusWord.extractLsb' 4 2 = s.life.code ∧ s.statusWord[6] = s.outcomeValid ∧
      s.statusWord[7] = false ∧ s.statusWord.extractLsb' 8 3 = s.outcome.code ∧
      s.statusWord[11] = false ∧ s.statusWord.extractLsb' 12 3 = s.failPhase.code ∧
      s.statusWord[15] = false ∧ s.statusWord.extractLsb' 16 4 = s.upc ∧
      s.statusWord.extractLsb' 20 12 = 0#12 := by
  refine ⟨?_, ?_, ?_, ?_, ?_, ?_, ?_, ?_, ?_, ?_, ?_⟩
  · ext i hi; interval_cases i <;> simp [State.statusWord]
  · simp [State.statusWord]
  · ext i hi; interval_cases i <;> simp [State.statusWord]
  · simp [State.statusWord]
  · simp [State.statusWord]
  · ext i hi; interval_cases i <;> simp [State.statusWord]
  · simp [State.statusWord]
  · ext i hi; interval_cases i <;> simp [State.statusWord]
  · simp [State.statusWord]
  · ext i hi; interval_cases i <;> simp [State.statusWord]
  · ext i hi; interval_cases i <;> simp [State.statusWord]

/-- PINS bit by bit: six bits, and bits 31..6 are 0 (10_state R38). -/
theorem pinsWord_layout (s : State) :
    s.pinsWord[0] = s.csN ∧ s.pinsWord[1] = s.rstN ∧ s.pinsWord[2] = s.doneLast ∧
      s.pinsWord[3] = s.oe ∧ s.pinsWord[4] = s.auxclkOn ∧ s.pinsWord[5] = s.busAcq ∧
      s.pinsWord.extractLsb' 6 26 = 0#26 := by
  refine ⟨by simp [State.pinsWord], by simp [State.pinsWord], by simp [State.pinsWord], by simp [State.pinsWord],
    by simp [State.pinsWord], by simp [State.pinsWord], ?_⟩
  ext i hi
  interval_cases i <;> simp [State.pinsWord]

/-- PARAM's two halves as one number (10_state R39). -/
theorem paramWord_toNat (s : State) :
    s.paramWord.toNat = s.params.flushBytes.toNat * 65536 + s.params.chunk.toNat := by
  have hflush := s.params.flushBytes.isLt
  have hchunk := s.params.chunk.isLt
  simp only [State.paramWord, BitVec.toNat_or, BitVec.toNat_shiftLeft, BitVec.toNat_setWidth]
  rw [Nat.mod_eq_of_lt (by omega : s.params.flushBytes.toNat < 2 ^ 32),
    Nat.mod_eq_of_lt (by omega : s.params.chunk.toNat < 2 ^ 32),
    Nat.mod_eq_of_lt (by rw [Nat.shiftLeft_eq]; omega), ← Nat.shiftLeft_add_eq_or_of_lt hchunk, Nat.shiftLeft_eq]

/-! ### A host access as a step (20_memory R55, R56, R62) -/

theorem step_of_read {s : State} {width : Width} {address : BitVec 17} {rest : List Input}
    (h : s.inputs = .access (.read width address) :: rest) :
    step s = .next { s with inputs := rest, hostReads := s.hostReads ++ [s.readValue width address] } := by
  simp only [step, State.popInput, h, List.tail_cons]
  rfl

theorem step_of_write {s : State} {width : Width} {address : BitVec 17} {value : Word} {rest : List Input}
    (h : s.inputs = .access (.write width address value) :: rest) :
    step s = hostWrite width address value { s with inputs := rest } := by
  simp only [step, State.popInput, h, List.tail_cons]
  rfl

/-! ### The writes that are ignored -/

/-- CMD, LEN_IN and POLL_BUDGET are the three registers that take a write (20_memory R51). -/
theorem writeRegister_ignored {address : BitVec 17} (value : Word) (s : State) (hcmd : address.toNat ≠ 0x00)
    (hlen : address.toNat ≠ 0x08) (hbudget : address.toNat ≠ 0x18) : writeRegister address value s = .next s := by
  unfold writeRegister
  split
  · next h => exact absurd h hcmd
  · next h => exact absurd h hlen
  · next h => exact absurd h hbudget
  · rfl

/-- Every word but INIT's and CONFIGURE's is reserved (30_encoding R72, R73). -/
theorem writeCommand_reserved {c : Word} (s : State) (h1 : c.toNat ≠ 1) (h2 : c.toNat ≠ 2) :
    writeCommand c s = .next s := by
  unfold writeCommand
  split
  · next i hi =>
    obtain ⟨rfl, -⟩ | ⟨rfl, -⟩ := decodeCommand_ok_cases hi
    · exact absurd rfl h1
    · exact absurd rfl h2
  · rfl

/-- A write below the image window that its register ignores does nothing, whatever its width and RUN. -/
theorem hostWrite_ignored {width : Width} {address : BitVec 17} {value : Word} {s : State}
    (hlow : address.toNat < 0x10000) (h : writeRegister address value s = .next s) :
    hostWrite width address value s = .next s := by
  simp [hostWrite, inImageWindow_eq_false hlow, h]

/-- Settles O34: the address is none of the three that take a write, or the word written to CMD is no command. -/
theorem reservedAndReadOnlyWritesAreIgnored : Obligations.ReservedAndReadOnlyWritesAreIgnored := by
  unfold Obligations.ReservedAndReadOnlyWritesAreIgnored
  intro s address value rest hinputs htarget
  rw [step_of_write hinputs]
  obtain hreadOnly | ⟨hcmd, h1, h2⟩ := htarget
  · simp only [List.mem_cons, List.not_mem_nil, or_false] at hreadOnly
    exact hostWrite_ignored (by omega) (writeRegister_ignored _ _ (by omega) (by omega) (by omega))
  · obtain rfl : address = 0#17 := BitVec.eq_of_toNat_eq hcmd
    exact hostWrite_ignored (by decide) (writeCommand_reserved _ h1 h2)

/-! ### Reset -/

/-- Settles O23. -/
theorem resetLeavesTheListedValues : Obligations.ResetLeavesTheListedValues := by
  unfold Obligations.ResetLeavesTheListedValues
  exact ⟨rfl, rfl, rfl, rfl, rfl, rfl, rfl, rfl, rfl, rfl, rfl, rfl, rfl, rfl, rfl, rfl, rfl, rfl, rfl, fun _ => rfl,
    rfl, rfl⟩

/-- Settles O24: the step that serves a block reset is blockReset, and that is State.powerOn but for what is not the
block's. -/
theorem blockResetRestoresTheListedValues : Obligations.BlockResetRestoresTheListedValues := by
  unfold Obligations.BlockResetRestoresTheListedValues
  intro s rest hinputs
  have hstep : step s = .next (blockReset s.popInput) := by simp only [step, hinputs]
  have hrest : s.popInput.inputs = rest := by simp [hinputs]
  exact ⟨_, hstep, rfl, rfl, rfl, rfl, rfl, rfl, rfl, rfl, rfl, rfl, rfl, rfl, rfl, rfl, rfl, rfl, rfl, rfl, rfl,
    fun _ => rfl, rfl, rfl, hrest⟩

/-! ### The register map -/

/-- Settles O26. -/
theorem statusHasItsLayout : Obligations.StatusHasItsLayout := by
  unfold Obligations.StatusHasItsLayout
  refine ⟨rfl, fun s => ⟨statusWord_layout s, rfl, fun value rest hinputs => ?_⟩⟩
  rw [step_of_write hinputs]
  exact hostWrite_ignored (by decide) (writeRegister_ignored _ _ (by decide) (by decide) (by decide))

/-- Settles O27. -/
theorem pinsHasItsLayout : Obligations.PinsHasItsLayout := by
  unfold Obligations.PinsHasItsLayout
  refine ⟨rfl, fun s => ⟨pinsWord_layout s, fun rest => ⟨step_of_read, fun value hinputs => ?_⟩⟩⟩
  rw [step_of_write hinputs]
  exact hostWrite_ignored (by decide) (writeRegister_ignored _ _ (by decide) (by decide) (by decide))

/-- Settles O28: each register by its address, and the image window by its index. -/
theorem registerReadsReturnTheMap : Obligations.RegisterReadsReturnTheMap := by
  unfold Obligations.RegisterReadsReturnTheMap
  intro s
  have hzeroExtend (x : BitVec 16) : (x.setWidth 32).toNat = x.toNat :=
    BitVec.toNat_setWidth_of_le (by decide)
  refine ⟨rfl, rfl, rfl, hzeroExtend s.frameLen, hzeroExtend s.offset, hzeroExtend s.polls,
    hzeroExtend s.pollBudget, paramWord_toNat s, rfl, fun i hi => ?_⟩
  rw [readValue_image s hi]
  exact BitVec.toNat_setWidth_of_le (by decide)

end Sys2Proof.Machine
end

section
/-! PROOFS. The state family, the invariant: it holds after power-on and every step keeps it (10_state R44), instruction by
instruction along the fixed ROM (41_sequencer R120); and what a running session leaves alone (R130, 20_memory R63). -/

namespace Sys2Proof.Machine

/-! ### What the invariant does not look at -/

/-- The invariant speaks of neither the trace, the inputs, the environment, the reads nor which unspecified contents the
image has. -/
theorem Inv.withSurroundings {s : State} (h : Inv s) (epoch : Nat) (trace : List Event) (inputs : List Input)
    (env : Environment) (reads : List Word) :
    Inv { s with imgEpoch := epoch, trace := trace, inputs := inputs, env := env, hostReads := reads } where
  rom := h.rom
  image := h.image
  bringUp := h.bringUp
  running hrun :=
    have ⟨life, valid, outcome, length, offset, polls, place⟩ := h.running hrun
    ⟨life, valid, outcome, length, offset, polls, place⟩
  resting hrun :=
    have ⟨pins, upc, report, fresh⟩ := h.resting hrun
    ⟨pins, upc, report, fresh⟩

theorem Inv.popInput {s : State} (h : Inv s) : Inv s.popInput :=
  h.withSurroundings s.imgEpoch s.trace s.inputs.tail s.env s.hostReads

/-! ### A resting block -/

/-- With RUN = 0 the invariant asks nothing of a session. -/
theorem Inv.of_resting {s : State} (hrun : s.run = false) (hrom : s.rom = romOf s.params)
    (himage : Memory.wf s.img = true) (hbringUp : BringUp s) (hresting : Resting s) : Inv s where
  rom := hrom
  image := himage
  bringUp := hbringUp
  running hrunning := absurd (hrun.symm.trans hrunning) Bool.false_ne_true
  resting _ := hresting

/-- A block that holds no report rests as it does after reset. -/
theorem Resting.of_no_report {s : State} (hvalid : s.outcomeValid = false) (hpins : Pins s true true)
    (hfsm : s.fsm = .idle) (hupc : s.upc = 0#4) (houtcome : s.outcome = .done) (hnothing : NothingSent s) :
    Resting s where
  pins := hpins
  upc := .inl hupc
  report hreport := absurd (hvalid.symm.trans hreport) Bool.false_ne_true
  fresh _ := ⟨hfsm, hupc, houtcome, hnothing⟩

/-- What the host stores while the block rests is no part of the invariant, but for the image's form. -/
theorem Inv.withHostWrites {s : State} (h : Inv s) (hrun : s.run = false) (len : BitVec 32) (budget : BitVec 16)
    {image : Memory} (himage : Memory.wf image = true) :
    Inv { s with lenIn := len, pollBudget := budget, img := image } :=
  have ⟨pins, upc, report, fresh⟩ := h.resting hrun
  .of_resting hrun h.rom himage h.bringUp ⟨pins, upc, report, fresh⟩

/-! ### Bring-up by LIFE (10_state R44 (d)) -/

/-- What bring-up has left holds for the value LIFE has. -/
theorem BringUp.at_life {s : State} (h : BringUp s) {l : Life} (hlife : s.life = l) : BringUp { s with life := l } := by
  subst hlife
  exact h

theorem BringUp.of_life {s : State} {l : Life} (hlife : s.life = l) (h : BringUp { s with life := l }) :
    BringUp s := by
  subst hlife
  exact h

/-- The outputs are enabled exactly after a bring-up that succeeded. -/
theorem BringUp.oe_eq {s : State} (h : BringUp s) : s.oe = decide (s.life = .ready) := by
  cases hlife : s.life with
  | unbound => exact (h.at_life hlife).1
  | ready => exact (h.at_life hlife).1
  | bringUpFailed => exact (h.at_life hlife).1

/-! ### Reset -/

/-- Settles O25: at power-on no session has run, so the report is fresh. -/
theorem powerOnMeetsTheInvariant : Obligations.PowerOnMeetsTheInvariant := by
  unfold Obligations.PowerOnMeetsTheInvariant
  intro p
  exact .of_resting rfl rfl rfl ⟨rfl, rfl, rfl, rfl⟩ (.of_no_report rfl ⟨rfl, rfl⟩ rfl rfl rfl ⟨rfl, rfl, rfl⟩)

theorem inv_blockReset {s : State} (hrom : s.rom = romOf s.params) : Inv (blockReset s) := by
  have heq : blockReset s = { State.powerOn s.params with
      imgEpoch := s.imgEpoch + 1, trace := [], inputs := s.inputs, env := s.env, hostReads := s.hostReads } := by
    simp only [blockReset, hrom]
    rfl
  rw [heq]
  exact (powerOnMeetsTheInvariant s.params).withSurroundings _ _ _ _ _

/-! ### The host commands -/

/-- INIT leaves a resting block resting: whether bring-up succeeds or fails, no report is held (40_host_commands
R102). -/
theorem inv_of_exec_init {s t : State} (h : Inv s) (hrun : s.run = false) (hexec : exec .init s = .next t) :
    Inv t := by
  obtain ⟨hlife, rfl⟩ | ⟨-, rfl⟩ := exec_init_next_cases hexec
  · obtain ⟨hoe, haux, hbus, hvalid⟩ := h.bringUp.at_life hlife
    obtain ⟨hpins, -, -, hfresh⟩ := h.resting hrun
    obtain ⟨hfsm, hupc, houtcome, hnothing⟩ := hfresh hvalid
    obtain ⟨-, heq⟩ | ⟨-, heq⟩ := bringUp_cases s
    · rw [heq]
      exact .of_resting hrun h.rom h.image ⟨rfl, rfl, rfl⟩
        (.of_no_report hvalid ⟨rfl, rfl⟩ rfl hupc houtcome hnothing)
    · rw [heq]
      exact .of_resting hrun h.rom h.image ⟨hoe, rfl, hbus, hvalid⟩
        (.of_no_report hvalid hpins hfsm hupc houtcome hnothing)
  · exact h

/-- A rejected input leaves its report; an accepted one starts the program at address 0 (40_host_commands R107 to
R110). -/
theorem inv_of_exec_configure {s t : State} (h : Inv s) (hrun : s.run = false)
    (hexec : exec .configure s = .next t) : Inv t := by
  obtain ⟨hpins, hupc, -, -⟩ := h.resting hrun
  obtain ⟨-, rfl⟩ | ⟨hlife, o, ho, rfl⟩ | ⟨hlife, hlow, hhigh, rfl⟩ := exec_configure_next_cases hexec
  · exact h
  · refine .of_resting hrun h.rom h.image (.of_life hlife (h.bringUp.at_life hlife)) ⟨hpins, hupc, fun _ => ?_, nofun⟩
    obtain ⟨rfl, -⟩ | ⟨rfl, -⟩ := ho
    · exact ⟨rfl, ⟨rfl, rfl, rfl⟩, rfl⟩
    · exact ⟨rfl, ⟨rfl, rfl, rfl⟩, rfl⟩
  · have hlength : 1 ≤ (s.lenIn.setWidth 16).toNat := by
      rw [BitVec.toNat_setWidth]
      omega
    exact {
      rom := h.rom
      image := h.image
      bringUp := .of_life hlife (h.bringUp.at_life hlife)
      running := fun _ =>
        ⟨hlife, rfl, rfl, hlength, Nat.zero_le _, Nat.zero_le _, ⟨hpins, rfl, rfl, rfl, rfl⟩⟩
      resting := nofun }

/-! ### Places of the program -/

/-- What holds at the address UPC has. -/
theorem Place.at_upc {s : State} (h : Place s) {k : BitVec 4} (hupc : s.upc = k) : Place { s with upc := k } := by
  subst hupc
  exact h

/-- What holds at an address holds once UPC has it. -/
theorem Place.of_upc {s : State} {k : BitVec 4} (hupc : s.upc = k) (h : Place { s with upc := k }) : Place s := by
  subst hupc
  exact h

/-! ### The micro-operations -/

/-- A micro-operation of a session keeps the ROM, the image and the bring-up. -/
theorem Inv.of_exec {i : Instr} {s t : State} (h : Inv s) (hrun : s.run = true) (hexec : exec i s = .next t)
    (hinit : i ≠ .init) (hrunning : t.run = true → Running t) (hresting : t.run = false → Resting t) : Inv t := by
  have hkept := exec_keeps_hostSide hexec
  obtain ⟨hlife, hoe, haux, hbus⟩ := exec_keeps_bringUp hexec hinit
  have hready : s.life = .ready := (h.running hrun).life
  obtain ⟨hoe', haux', hbus'⟩ := h.bringUp.at_life hready
  exact {
    rom := by rw [hkept.rom, hkept.params, h.rom]
    image := by rw [hkept.img, h.image]
    bringUp := .of_life (hlife.trans hready) ⟨hoe.trans hoe', haux.trans haux', hbus.trans hbus'⟩
    running := hrunning
    resting := hresting }

/-- A micro-operation that is no END keeps the session running; what is left to show is its bounds and its place. -/
theorem Inv.of_place {i : Instr} {s t : State} (h : Inv s) (hrun : s.run = true) (hexec : exec i s = .next t)
    (hinit : i ≠ .init) (hconfigure : i ≠ .configure) (hend : ∀ phase code, i ≠ .endOp phase code)
    (hoffset : t.offset.toNat ≤ s.frameLen.toNat) (hpolls : t.polls.toNat ≤ s.pollBudget.toNat)
    (hplace : Place t) : Inv t := by
  obtain ⟨hlife, -, -, -⟩ := exec_keeps_bringUp hexec hinit
  obtain ⟨hrun', houtcome, hvalid⟩ := exec_keeps_session hexec hconfigure hend
  have hlen : t.frameLen = s.frameLen := exec_keeps_frameLen hexec hconfigure
  have hbudget : t.pollBudget = s.pollBudget := (exec_keeps_hostSide hexec).pollBudget
  have hsession := h.running hrun
  exact h.of_exec hrun hexec hinit
    (fun _ => {
      life := hlife.trans hsession.life
      valid := hvalid.trans hsession.valid
      outcome := houtcome.trans hsession.outcome
      length := hlen ▸ hsession.length
      offset := hlen ▸ hoffset
      polls := hbudget ▸ hpolls
      place := hplace })
    (fun hstopped => absurd (hstopped.symm.trans (hrun'.trans hrun)) Bool.false_ne_true)

/-- Of a micro-operation that writes neither OFFSET nor POLLS only its place is left to show. -/
theorem Inv.of_place_of_counters {i : Instr} {s t : State} (h : Inv s) (hrun : s.run = true)
    (hexec : exec i s = .next t) (hinit : i ≠ .init) (hconfigure : i ≠ .configure)
    (hend : ∀ phase code, i ≠ .endOp phase code) (hxferi : ∀ phase, i ≠ .xferi phase)
    (hpoll : ∀ phase, i ≠ .poll phase) (hplace : Place t) : Inv t := by
  refine h.of_place hrun hexec hinit hconfigure hend ?_ ?_ hplace
  · rw [exec_keeps_offset hexec hconfigure hxferi]
    exact (h.running hrun).offset
  · rw [exec_keeps_polls hexec hconfigure hpoll]
    exact (h.running hrun).polls

theorem inv_of_exec_setpin {phase : Fsm} {pin : OutPin} {level : Level} {k : BitVec 4} {s t : State} (h : Inv s)
    (hrun : s.run = true) (hexec : exec (.setpin phase pin level) s = .next t) (hupc : s.upc = k)
    (hplace : Place { (s.setFsm phase).drivePin pin level with upc := k + 1#4 }) : Inv t := by
  refine h.of_place_of_counters hrun hexec nofun nofun nofun nofun nofun ?_
  obtain rfl := Host.Outcome.next.inj hexec
  cases pin with
  | csN => exact Place.of_upc (by simp [State.advance, hupc]) hplace
  | rstN => exact Place.of_upc (by simp [State.advance, hupc]) hplace

theorem inv_of_exec_delay {phase : Fsm} {d : BitVec 24} {k : BitVec 4} {s t : State} (h : Inv s)
    (hrun : s.run = true) (hexec : exec (.delay phase d) s = .next t) (hupc : s.upc = k)
    (hplace : Place { s with fsm := phase, upc := k + 1#4 }) : Inv t := by
  refine h.of_place_of_counters hrun hexec nofun nofun nofun nofun nofun ?_
  obtain rfl := Host.Outcome.next.inj hexec
  exact Place.of_upc (by simp [State.advance, hupc]) hplace

/-- A failed exchange leads to address 13, where CS_N still has the level of the phase (60_exceptions R203). -/
theorem place_of_failed_exchange {s : State} (hupc : s.upc = 13#4) (hpins : Pins s (s.failPhase != .streaming) true)
    (hfsm : s.fsm = s.failPhase) (hphase : FailedExchange s) (hpolls : s.polls = 0#16) : Place s :=
  Place.of_upc hupc ⟨hpins, hfsm, hphase, hpolls⟩

/-- The exchanges with CS_N high, of Priming and of Flushing (41_sequencer R129). -/
theorem inv_of_exec_xferc {phase : Fsm} {fill : Byte} {count : BitVec 16} {k : BitVec 4} {s t : State} (h : Inv s)
    (hrun : s.run = true) (hexec : exec (.xferc phase fill count) s = .next t) (hupc : s.upc = k)
    (hphase : phase = .priming ∨ phase = .flushing) (hpins : Pins s true true) (hpolls : s.polls = 0#16)
    (hplace : Place { s with fsm := phase, upc := k + 1#4 }) : Inv t := by
  refine h.of_place_of_counters hrun hexec nofun nofun nofun nofun nofun ?_
  obtain rfl := exec_xferc_next hexec
  obtain ⟨-, heq⟩ | ⟨-, heq⟩ := sendFill_cases fill count (s.setFsm phase)
  · rw [heq]
    exact Place.of_upc (by simp [hupc]) hplace
  · rw [heq]
    obtain rfl | rfl := hphase
    · exact place_of_failed_exchange rfl hpins rfl (.inl rfl) hpolls
    · exact place_of_failed_exchange rfl hpins rfl (.inr (.inr rfl)) hpolls

/-- OFFSET after a chunk, as a number: the chunk does not pass the end of the frame (42_framer R143). -/
theorem offset_add_chunkLength_le {s : State} (h : s.offset.toNat ≤ s.frameLen.toNat) :
    (s.offset + s.chunkLength).toNat ≤ s.frameLen.toNat := by
  have hframe := s.frameLen.isLt
  rw [BitVec.toNat_add, chunkLength_toNat h]
  omega

/-- XFERI at address 8: the next chunk, the end of the image, or the failure path (42_framer R143). -/
theorem inv_of_exec_xferi {s t : State} (h : Inv s) (hrun : s.run = true)
    (hexec : exec (.xferi .streaming) s = .next t) (hupc : s.upc = 8#4) : Inv t := by
  obtain ⟨hpins, -, hfail, hpolls0, hoffset⟩ := (h.running hrun).place.at_upc hupc
  have hsent : ((s.setFsm .streaming).offset + (s.setFsm .streaming).chunkLength).toNat ≤ s.frameLen.toNat :=
    offset_add_chunkLength_le (s := s.setFsm .streaming) hoffset.le
  have hpolls := (h.running hrun).polls
  have ht : sendChunk (s.setFsm .streaming) = t := Host.Outcome.next.inj hexec
  obtain ⟨-, hall, heq⟩ | ⟨-, hmore, heq⟩ | ⟨-, heq⟩ := sendChunk_cases (s.setFsm .streaming)
  · obtain rfl := ht.symm.trans heq
    exact h.of_place hrun hexec nofun nofun nofun hsent hpolls
      (.of_upc (k := 9#4) (by simp [hupc]) ⟨hpins, rfl, ⟨hall, hfail⟩, hpolls0⟩)
  · obtain rfl := ht.symm.trans heq
    have hbefore := Nat.lt_of_le_of_ne hsent fun hend => hmore (BitVec.eq_of_toNat_eq hend)
    exact h.of_place hrun hexec nofun nofun nofun hsent hpolls
      (.of_upc (k := 8#4) hupc ⟨hpins, rfl, hfail, hpolls0, hbefore⟩)
  · obtain rfl := ht.symm.trans heq
    exact h.of_place hrun hexec nofun nofun nofun hoffset.le hpolls
      (place_of_failed_exchange rfl hpins rfl (.inr (.inl rfl)) hpolls0)

/-- POLL at address 11: no sample is left, or the one taken ends the polling or not (43_poller R160). -/
theorem inv_of_exec_poll {s t : State} (h : Inv s) (hrun : s.run = true)
    (hexec : exec (.poll .awaitingCompletion) s = .next t) (hupc : s.upc = 11#4) : Inv t := by
  obtain ⟨hpins, ⟨hsent, hfail⟩, -⟩ := (h.running hrun).place.at_upc hupc
  have hoffset := (h.running hrun).offset
  have hpolls := (h.running hrun).polls
  have hcount (hleft : s.polls.toNat < s.pollBudget.toNat) : (s.polls + 1#16).toNat = s.polls.toNat + 1 := by
    have hbudget := s.pollBudget.isLt
    rw [BitVec.toNat_add_of_lt]
    · rfl
    · simp only [BitVec.toNat_ofNat]
      omega
  have ht : pollOnce (s.setFsm .awaitingCompletion) = t := Host.Outcome.next.inj hexec
  obtain ⟨hused, heq⟩ | ⟨hleft, -, heq⟩ | ⟨hleft, -, hlast, heq⟩ | ⟨hleft, -, hmore, heq⟩ :=
    pollOnce_cases (s.setFsm .awaitingCompletion)
  · obtain rfl := ht.symm.trans heq
    have hexhausted := BitVec.eq_of_toNat_eq (Nat.le_antisymm hpolls hused)
    exact h.of_place hrun hexec nofun nofun nofun hoffset hpolls ⟨hpins, rfl, rfl, hsent, hexhausted⟩
  · obtain rfl := ht.symm.trans heq
    have hcounted := hcount hleft
    have hsampled := (Nat.le_add_left 1 _).trans_eq hcounted.symm
    exact h.of_place hrun hexec nofun nofun nofun hoffset (hcounted.trans_le hleft)
      (.of_upc (k := 12#4) (by simp [hupc]) ⟨hpins, rfl, ⟨hsent, hfail⟩, hsampled⟩)
  · obtain rfl := ht.symm.trans heq
    exact h.of_place hrun hexec nofun nofun nofun hoffset ((hcount hleft).trans_le hleft)
      ⟨hpins, rfl, rfl, hsent, hlast⟩
  · obtain rfl := ht.symm.trans heq
    have hwithin := (hcount hleft).trans_le hleft
    have hbefore := Nat.lt_of_le_of_ne hwithin fun hend => hmore (BitVec.eq_of_toNat_eq hend)
    exact h.of_place hrun hexec nofun nofun nofun hoffset hwithin
      (.of_upc (k := 11#4) hupc ⟨hpins, ⟨hsent, hfail⟩, .inr ⟨rfl, hbefore⟩⟩)

/-- END leaves the report of its outcome, with UPC at its address (43_poller R166, R168). -/
theorem inv_of_exec_end {phase : Fsm} {code : SessionOutcome} {s t : State} (h : Inv s) (hrun : s.run = true)
    (hexec : exec (.endOp phase code) s = .next t) (hupc : s.upc = 12#4 ∨ s.upc = 14#4 ∨ s.upc = 15#4)
    (hpins : Pins s true true) (hreport : Report { s with fsm := phase, outcome := code }) : Inv t := by
  obtain rfl := Host.Outcome.next.inj hexec
  exact h.of_exec hrun hexec nofun nofun fun _ => ⟨hpins, .inr hupc, fun _ => hreport, nofun⟩

/-- Each of the sixteen words of the program leads from what holds at its address to what holds at the next one; the
cases are the addresses of 41_sequencer R120, in order. -/
theorem inv_of_exec_rom {s t : State} (h : Inv s) (hrun : s.run = true)
    (hexec : exec (romProgram s.params)[s.upc.toNat] s = .next t) : Inv t := by
  have hplace := (h.running hrun).place
  have hlength := (h.running hrun).length
  obtain ⟨k, hk, hupc⟩ : ∃ k : Nat, s.upc.toNat = k ∧ s.upc = BitVec.ofNat 4 k := ⟨_, rfl, by simp⟩
  have hlt : k < 16 := hk ▸ s.upc.isLt
  simp only [hk] at hexec
  interval_cases k
  · obtain ⟨⟨-, hrst⟩, -, hnothing⟩ := hplace.at_upc hupc
    exact inv_of_exec_setpin h hrun hexec hupc ⟨⟨rfl, hrst⟩, rfl, hnothing⟩
  · obtain ⟨⟨hcs, -⟩, -, hnothing⟩ := hplace.at_upc hupc
    exact inv_of_exec_setpin h hrun hexec hupc ⟨⟨hcs, rfl⟩, rfl, hnothing⟩
  · obtain ⟨hpins, -, hnothing⟩ := hplace.at_upc hupc
    exact inv_of_exec_delay h hrun hexec hupc ⟨hpins, rfl, hnothing⟩
  · obtain ⟨⟨hcs, -⟩, -, hnothing⟩ := hplace.at_upc hupc
    exact inv_of_exec_setpin h hrun hexec hupc ⟨⟨hcs, rfl⟩, rfl, hnothing⟩
  · obtain ⟨hpins, -, hnothing⟩ := hplace.at_upc hupc
    exact inv_of_exec_delay h hrun hexec hupc ⟨hpins, rfl, hnothing⟩
  · obtain ⟨⟨-, hrst⟩, -, hnothing⟩ := hplace.at_upc hupc
    exact inv_of_exec_setpin h hrun hexec hupc ⟨⟨rfl, hrst⟩, rfl, hnothing⟩
  · obtain ⟨hpins, -, hoffset, hpolls, hfail⟩ := hplace.at_upc hupc
    exact inv_of_exec_xferc h hrun hexec hupc (.inl rfl) hpins hpolls ⟨hpins, rfl, hoffset, hpolls, hfail⟩
  · obtain ⟨⟨-, hrst⟩, -, hoffset, hpolls, hfail⟩ := hplace.at_upc hupc
    have hbegin : s.offset.toNat < s.frameLen.toNat := (congrArg BitVec.toNat hoffset).trans_lt hlength
    exact inv_of_exec_setpin h hrun hexec hupc ⟨⟨rfl, hrst⟩, rfl, hfail, hpolls, hbegin⟩
  · exact inv_of_exec_xferi h hrun hexec hupc
  · obtain ⟨⟨-, hrst⟩, -, hall, hpolls⟩ := hplace.at_upc hupc
    exact inv_of_exec_setpin h hrun hexec hupc ⟨⟨rfl, hrst⟩, rfl, hall, hpolls⟩
  · obtain ⟨hpins, -, hall, hpolls⟩ := hplace.at_upc hupc
    exact inv_of_exec_xferc h hrun hexec hupc (.inr rfl) hpins hpolls ⟨hpins, hall, .inl ⟨rfl, hpolls⟩⟩
  · exact inv_of_exec_poll h hrun hexec hupc
  · obtain ⟨hpins, -, hall, hpolls⟩ := hplace.at_upc hupc
    exact inv_of_exec_end h hrun hexec (.inl hupc) hpins ⟨rfl, hall, hupc, hpolls⟩
  · obtain ⟨⟨-, hrst⟩, -, hphase, hpolls⟩ := hplace.at_upc hupc
    exact inv_of_exec_setpin h hrun hexec hupc ⟨⟨rfl, hrst⟩, rfl, hphase, hpolls⟩
  · obtain ⟨hpins, -, hphase, hpolls⟩ := hplace.at_upc hupc
    exact inv_of_exec_end h hrun hexec (.inr (.inl hupc)) hpins ⟨rfl, hphase, hupc, hpolls⟩
  · obtain ⟨hpins, -, hfail, hsent, -⟩ := hplace.at_upc hupc
    exact inv_of_exec_end h hrun hexec (.inr (.inr hupc)) hpins ⟨rfl, hfail, hsent, hupc⟩

/-! ### Every step -/

theorem inv_of_blockTurn {s t : State} (h : Inv s) (hturn : blockTurn s = .next t) : Inv t := by
  obtain ⟨-, rfl⟩ | ⟨hrun, -⟩ := blockTurn_next_cases hturn
  · exact h
  · rw [blockTurn_rom hrun h.rom] at hturn
    exact inv_of_exec_rom h hrun hturn

theorem inv_of_hostWrite {width : Width} {address : BitVec 17} {value : Word} {s t : State} (h : Inv s)
    (hwrite : hostWrite width address value s = .next t) : Inv t := by
  obtain rfl | ⟨hrun, hstore⟩ := hostWrite_next_cases hwrite
  · exact h
  · obtain ⟨-, -, rfl⟩ | ⟨-, -, rfl⟩ | ⟨-, -, rfl⟩ | ⟨-, -, i, hcommand, hexec⟩ := hstore
    · exact h.withHostWrites hrun _ _ (Memory.wf_write _ _ h.image)
    · exact h.withHostWrites hrun _ _ h.image
    · exact h.withHostWrites hrun _ _ h.image
    · obtain ⟨-, rfl⟩ | ⟨-, rfl⟩ := decodeCommand_ok_cases hcommand
      · exact inv_of_exec_init h hrun hexec
      · exact inv_of_exec_configure h hrun hexec

/-- Settles O38: the invariant of a host access, of a block reset and of the block's turn. -/
theorem everyStepKeepsTheInvariant : Obligations.EveryStepKeepsTheInvariant := by
  unfold Obligations.EveryStepKeepsTheInvariant
  intro s t h hstep
  obtain ⟨access, rest, -, haccess⟩ | ⟨rest, -, rfl⟩ | ⟨-, hturn⟩ := step_next_cases hstep
  · obtain ⟨width, address, -, rfl⟩ | ⟨width, address, value, -, hwrite⟩ := hostAccess_next_cases haccess
    · exact h.popInput.withSurroundings _ _ _ _ _
    · exact inv_of_hostWrite h.popInput hwrite
  · exact inv_blockReset h.rom
  · exact inv_of_blockTurn h.popInput hturn

/-- Settles O36: the resting latches are high, and OE says whether they drive the lines. -/
theorem restingPinsAreDrivenHighOrNotAtAll : Obligations.RestingPinsAreDrivenHighOrNotAtAll := by
  unfold Obligations.RestingPinsAreDrivenHighOrNotAtAll
  intro s pin h hrun
  obtain ⟨hcs, hrst⟩ := (h.resting hrun).pins
  have hlatch : s.pinLatch pin = true := by
    cases pin with
    | csN => exact hcs
    | rstN => exact hrst
  have hoe := h.bringUp.oe_eq
  exact ⟨fun hready => by simp [State.pinDriven, hoe, hready, hlatch],
    fun hother => by simp [State.pinDriven, hoe, hother]⟩

/-! ### A running session -/

/-- With RUN = 1 and no reset pending, a step is a host access that leaves the block alone, or the word at UPC. -/
theorem step_next_cases_of_run {s t : State} (hrun : s.run = true) (hreset : ¬ ResetPending s)
    (hstep : step s = .next t) :
    t = { s with inputs := t.inputs, hostReads := t.hostReads } ∨
    (BlockHasTurn s ∧ ∃ i, decodeMicro s.fetch = .ok i ∧ exec i s.popInput = .next t) := by
  obtain ⟨access, rest, -, haccess⟩ | ⟨rest, hinputs, -⟩ | ⟨hturn, hblock⟩ := step_next_cases hstep
  · obtain ⟨width, address, -, rfl⟩ | ⟨width, address, value, -, hwrite⟩ := hostAccess_next_cases haccess
    · exact .inl rfl
    · obtain rfl | ⟨hidle, -⟩ := hostWrite_next_cases hwrite
      · exact .inl rfl
      · exact absurd (hidle.symm.trans hrun) Bool.false_ne_true
  · exact absurd ⟨rest, hinputs⟩ hreset
  · obtain ⟨hidle, -⟩ | ⟨-, i, hdecode, hexec⟩ := blockTurn_next_cases hblock
    · exact absurd (hidle.symm.trans hrun) Bool.false_ne_true
    · exact .inr ⟨hturn, i, hdecode, hexec⟩

/-- Settles O41: no micro-operation touches the image or POLL_BUDGET, and CONFIGURE alone writes FRAME_LEN. -/
theorem imageIsStableDuringASession : Obligations.ImageIsStableDuringASession := by
  unfold Obligations.ImageIsStableDuringASession
  intro s t hrun hreset hstep
  obtain heq | ⟨-, i, hdecode, hexec⟩ := step_next_cases_of_run hrun hreset hstep
  · rw [heq]
    exact ⟨fun _ => rfl, rfl, rfl⟩
  · have hkept := exec_keeps_hostSide hexec
    obtain ⟨-, hconfigure⟩ := decodeMicro_ne_command hdecode
    have hframe := exec_keeps_frameLen hexec hconfigure
    exact ⟨hkept.imgRead, hkept.pollBudget, hframe⟩

/-- Settles O42: of the micro-operations END alone writes RUN. -/
theorem onlyEndStopsARunningSession : Obligations.OnlyEndStopsARunningSession := by
  unfold Obligations.OnlyEndStopsARunningSession
  intro s t hrun hreset hstep hstopped
  obtain heq | ⟨hturn, i, hdecode, hexec⟩ := step_next_cases_of_run hrun hreset hstep
  · rw [heq] at hstopped
    exact absurd (hstopped.symm.trans hrun) Bool.false_ne_true
  · refine ⟨hturn, ?_⟩
    by_contra hnoEnd
    push Not at hnoEnd
    obtain ⟨-, hconfigure⟩ := decodeMicro_ne_command hdecode
    obtain ⟨hkept, -, -⟩ :=
      exec_keeps_session hexec hconfigure fun phase code hend => hnoEnd phase code (hend ▸ hdecode)
    exact absurd (hstopped.symm.trans (hkept.trans hrun)) Bool.false_ne_true

end Sys2Proof.Machine
end

section
/-! PROOFS. The memory family, host accesses: a read has no side effect, a write is ignored while RUN = 1 and outside the
access rules (20_memory R53 to R56), and a byte write changes one image byte (R52). -/

namespace Sys2Proof.Machine

/-! ### Accesses that the rules do not allow (20_memory R53, R54) -/

/-- The register range takes 32-bit accesses at multiples of 4 (20_memory R53). -/
theorem registerAccess_iff (width : Width) (address : BitVec 17) :
    registerAccess width address = true ↔ width = .w32 ∧ address.toNat % 4 = 0 := by
  simp [registerAccess, ← BitVec.toNat_inj, BitVec.extractLsb'_toNat]

/-- Above PINS no register is mapped (20_memory R51). -/
theorem readRegister_unmapped (s : State) {address : BitVec 17} (h : 0x24 ≤ address.toNat) :
    s.readRegister address = 0#32 := by
  unfold State.readRegister
  split
  case h_9 => rfl
  all_goals omega

theorem readValue_outside (s : State) {width : Width} {address : BitVec 17}
    (h : OutsideAccessRules width address.toNat) : s.readValue width address = 0#32 := by
  obtain ⟨hlow, hreason⟩ | ⟨hhigh, hwidth⟩ := h
  · simp only [State.readValue, inImageWindow_eq_false hlow, Bool.false_eq_true, if_false]
    split
    · next hallowed =>
      obtain ⟨hw32, haligned⟩ := (registerAccess_iff _ _).mp hallowed
      obtain hwidth | hmisaligned | hunmapped := hreason
      · exact absurd hw32 hwidth
      · exact absurd haligned hmisaligned
      · exact readRegister_unmapped s hunmapped
    · rfl
  · simp [State.readValue, (inImageWindow_iff address).mpr hhigh, imageAccess, hwidth]

theorem hostWrite_outside {width : Width} {address : BitVec 17} (value : Word) (s : State)
    (h : OutsideAccessRules width address.toNat) : hostWrite width address value s = .next s := by
  obtain ⟨hlow, hreason⟩ | ⟨hhigh, hwidth⟩ := h
  · simp only [hostWrite, inImageWindow_eq_false hlow, Bool.false_eq_true, if_false]
    split
    · rfl
    · split
      · next hallowed =>
        obtain ⟨hw32, haligned⟩ := (registerAccess_iff _ _).mp hallowed
        obtain hwidth | hmisaligned | hunmapped := hreason
        · exact absurd hw32 hwidth
        · exact absurd haligned hmisaligned
        · exact writeRegister_ignored value s (by omega) (by omega) (by omega)
      · rfl
  · simp [hostWrite, (inImageWindow_iff address).mpr hhigh, imageAccess, hwidth]

/-- Settles O30: outside the rules a read is served with 0 and a write leaves the state. -/
theorem accessesOutsideTheRulesAreIgnored : Obligations.AccessesOutsideTheRulesAreIgnored := by
  unfold Obligations.AccessesOutsideTheRulesAreIgnored
  intro s width address value rest houtside
  refine ⟨fun hread => ?_, fun hwrite => ?_⟩
  · rw [step_of_read hread, readValue_outside s houtside]
  · rw [step_of_write hwrite, hostWrite_outside value _ houtside]

/-! ### Accesses at any time (20_memory R55, R56) -/

/-- Settles O29. -/
theorem hostReadsHaveNoSideEffect : Obligations.HostReadsHaveNoSideEffect := by
  unfold Obligations.HostReadsHaveNoSideEffect
  intro s width address rest hread
  exact step_of_read hread

/-- RUN is the first test of a host write. -/
theorem hostWrite_of_run (width : Width) (address : BitVec 17) (value : Word) {s : State} (hrun : s.run = true) :
    hostWrite width address value s = .next s :=
  if_pos hrun

/-- Settles O31. -/
theorem writesAreIgnoredWhileRunning : Obligations.WritesAreIgnoredWhileRunning := by
  unfold Obligations.WritesAreIgnoredWhileRunning
  intro s width address value rest hrun hwrite
  rw [step_of_write hwrite]
  exact hostWrite_of_run width address value hrun

/-! ### The image window (20_memory R52) -/

theorem imageIndex_toNat {address : BitVec 17} (h : 0x10000 ≤ address.toNat) :
    (imageIndex address).toNat = address.toNat - 0x10000 := by
  have := address.isLt
  simp only [imageIndex, BitVec.toNat_setWidth]
  omega

/-- With RUN = 0 a byte write in the window stores the byte (log entry 19 for the lanes). -/
theorem hostWrite_image {address : BitVec 17} (byte : Byte) {s : State} (hrun : s.run = false)
    (h : 0x10000 ≤ address.toNat) :
    hostWrite .w8 address (byte.setWidth 32) s = .next (s.imgWrite (imageIndex address) byte) := by
  simp [hostWrite, hrun, (inImageWindow_iff address).mpr h, imageAccess]

/-- Settles O35: the write is one `imgWrite`, and a read of the window is `imgRead` at the same index. -/
theorem imageWriteStoresOneByte : Obligations.ImageWriteStoresOneByte := by
  unfold Obligations.ImageWriteStoresOneByte
  intro s address byte rest hrun hwindow hwrite
  have hindex := imageIndex_toNat hwindow
  have hstep := (step_of_write hwrite).trans (hostWrite_image byte hrun hwindow)
  have hsame := State.imgRead_imgWrite_same { s with inputs := rest } (imageIndex address) byte
  refine ⟨_, hstep, rfl, hindex ▸ hsame, fun a ha => ?_, ?_⟩
  · exact State.imgRead_imgWrite_other _ byte (hindex ▸ ha)
  · simp [State.readValue, (inImageWindow_iff address).mpr hwindow, imageAccess]

/-! ### The serial bus (20_memory R57, R58) -/

@[simp] theorem wireBitsOfByte_length (msbFirst : Bool) (b : Byte) : (wireBitsOfByte msbFirst b).length = 8 := by
  cases msbFirst <;> simp [wireBitsOfByte]

theorem wireBitsOfByte_getElem? (msbFirst : Bool) (b : Byte) {j : Nat} (hj : j < 8) :
    (wireBitsOfByte msbFirst b)[j]? = some (b.getLsbD (if msbFirst then 7 - j else j)) := by
  cases msbFirst with
  | true => simp [wireBitsOfByte, hj, show 7 - j < 8 by omega]
  | false => simp [wireBitsOfByte, hj]

theorem wireBits_cons (p : Params) (b : Byte) (tx : List Byte) :
    wireBits p (b :: tx) = wireBitsOfByte p.msbFirst b ++ wireBits p tx :=
  List.flatMap_cons

theorem wireBits_length (p : Params) (tx : List Byte) : (wireBits p tx).length = 8 * tx.length := by
  simp [wireBits, List.length_flatMap, Nat.mul_comm]

/-- Bit `j` of byte `i` is shifted out as bit `8 * i + j`: each byte before it takes eight places. -/
theorem wireBits_getElem? (p : Params) {tx : List Byte} {i j : Nat} {b : Byte} (hb : tx[i]? = some b) (hj : j < 8) :
    (wireBits p tx)[8 * i + j]? = some (b.getLsbD (if p.msbFirst then 7 - j else j)) := by
  induction tx generalizing i with
  | nil => simp at hb
  | cons first rest ih =>
    rw [wireBits_cons]
    cases i with
    | zero =>
      obtain rfl : first = b := by simpa using hb
      rw [List.getElem?_append_left (by simpa using hj), Nat.mul_zero, Nat.zero_add, wireBitsOfByte_getElem? _ _ hj]
    | succ i =>
      rw [List.getElem?_append_right (by rw [wireBitsOfByte_length]; omega), wireBitsOfByte_length,
        show 8 * (i + 1) + j - 8 = 8 * i + j by omega]
      exact ih (by simpa using hb)

/-- Settles O37. -/
theorem bytesGoOutInOrderBitByBit : Obligations.BytesGoOutInOrderBitByBit := by
  unfold Obligations.BytesGoOutInOrderBitByBit
  intro p tx
  exact ⟨wireBits_length p tx, fun _ _ _ => wireBits_getElem? p⟩

end Sys2Proof.Machine
end

section
/-! PROOFS. The memory family, the exchanges: which instructions make one, where the fixed ROM holds them
(41_sequencer R120), and so how chip-select frames them and how long they are (R129, 20_memory R61). -/

namespace Sys2Proof.Machine

/-! ### The instructions that make an exchange -/

/-- XFERC and XFERI alone hand bytes to the Transport, each in the phase of its word (42_framer R140). -/
theorem exec_emits_xfer {i : Instr} {s t : State} {tx : List Byte} {ok : Bool} (h : exec i s = .next t)
    (hemitted : Emitted s t [.xfer tx ok]) :
    (∃ phase fill count, i = .xferc phase fill count ∧ t.fsm = phase ∧ tx = fillBytes fill count) ∨
    (∃ phase, i = .xferi phase ∧ t.fsm = phase ∧ tx = s.chunkBytes) := by
  unfold Emitted at hemitted
  cases i with
  | init =>
    obtain ⟨-, rfl⟩ | ⟨-, rfl⟩ := exec_init_next_cases h
    · obtain ⟨-, heq⟩ | ⟨-, heq⟩ := bringUp_cases s
      all_goals simp [heq] at hemitted
    · simp at hemitted
  | configure =>
    obtain ⟨-, rfl⟩ | ⟨-, o, -, rfl⟩ | ⟨-, -, -, rfl⟩ := exec_configure_next_cases h
    all_goals simp at hemitted
  | setpin phase pin level =>
    obtain rfl := Host.Outcome.next.inj h
    simp [State.advance] at hemitted
  | delay phase d =>
    obtain rfl := Host.Outcome.next.inj h
    simp [State.advance] at hemitted
  | xferc phase fill count =>
    obtain rfl := exec_xferc_next h
    refine .inl ⟨phase, fill, count, rfl, ?_⟩
    obtain ⟨-, heq⟩ | ⟨-, heq⟩ := sendFill_cases fill count (s.setFsm phase)
    all_goals simp_all
  | xferi phase =>
    obtain rfl := Host.Outcome.next.inj h
    refine .inr ⟨phase, rfl, ?_⟩
    have hbytes : (s.setFsm phase).chunkBytes = s.chunkBytes := rfl
    obtain ⟨-, -, heq⟩ | ⟨-, -, heq⟩ | ⟨-, heq⟩ := sendChunk_cases (s.setFsm phase)
    all_goals simp_all
  | poll phase =>
    obtain rfl := Host.Outcome.next.inj h
    obtain ⟨-, heq⟩ | ⟨-, -, heq⟩ | ⟨-, -, -, heq⟩ | ⟨-, -, -, heq⟩ := pollOnce_cases (s.setFsm phase)
    all_goals simp [heq] at hemitted
  | endOp phase code =>
    obtain rfl := Host.Outcome.next.inj h
    simp [finishSession_eq] at hemitted

/-- A host access emits no exchange: it runs a host command at most. -/
theorem hostAccess_emits_no_xfer {a : HostAccess} {s t : State} {tx : List Byte} {ok : Bool}
    (h : hostAccess a s = .next t) : ¬ Emitted s t [.xfer tx ok] := by
  intro hemitted
  obtain ⟨width, address, -, rfl⟩ | ⟨width, address, value, -, hwrite⟩ := hostAccess_next_cases h
  · simp [Emitted] at hemitted
  · obtain rfl | ⟨-, ⟨-, -, rfl⟩ | ⟨-, -, rfl⟩ | ⟨-, -, rfl⟩ | ⟨-, -, i, hcommand, hexec⟩⟩ :=
      hostWrite_next_cases hwrite
    · simp [Emitted] at hemitted
    · simp [Emitted] at hemitted
    · simp [Emitted] at hemitted
    · simp [Emitted] at hemitted
    · obtain ⟨-, rfl⟩ | ⟨-, rfl⟩ := decodeCommand_ok_cases hcommand
      all_goals
        obtain ⟨_, _, _, himpossible, -⟩ | ⟨_, himpossible, -⟩ := exec_emits_xfer hexec hemitted
        all_goals cases himpossible

/-- A step that emits an exchange runs the word of the fixed ROM at UPC. -/
theorem exec_rom_of_emits_xfer {s t : State} {tx : List Byte} {ok : Bool} (hrom : s.rom = romOf s.params)
    (h : step s = .next t) (hemitted : Emitted s t [.xfer tx ok]) :
    s.run = true ∧ exec (romProgram s.params)[s.upc.toNat] s.popInput = .next t := by
  obtain ⟨access, rest, -, haccess⟩ | ⟨rest, -, rfl⟩ | ⟨-, hturn⟩ := step_next_cases h
  · exact (hostAccess_emits_no_xfer haccess hemitted).elim
  · have hcleared : [] = s.trace ++ [.xfer tx ok] := hemitted
    simp at hcleared
  · obtain ⟨-, rfl⟩ | ⟨hrun, -⟩ := blockTurn_next_cases hturn
    · simp [Emitted] at hemitted
    · exact ⟨hrun, (blockTurn_rom (s := s.popInput) hrun hrom).symm.trans hturn⟩

/-! ### Where the ROM holds them (41_sequencer R120) -/

theorem romProgram_xferc {p : Params} {k : Nat} (hk : k < 16) {phase : Fsm} {fill : Byte} {count : BitVec 16}
    (h : (romProgram p)[k] = .xferc phase fill count) :
    (k = 6 ∧ phase = .priming ∧ fill = Config.primeFill ∧ count = Config.primeBytes) ∨
    (k = 10 ∧ phase = .flushing ∧ fill = p.flushFill ∧ count = p.flushBytes) := by
  interval_cases k <;> cases h
  · exact .inl ⟨rfl, rfl, rfl, rfl⟩
  · exact .inr ⟨rfl, rfl, rfl, rfl⟩

theorem romProgram_xferi {p : Params} {k : Nat} (hk : k < 16) {phase : Fsm}
    (h : (romProgram p)[k] = .xferi phase) : k = 8 ∧ phase = .streaming := by
  interval_cases k <;> cases h
  exact ⟨rfl, rfl⟩

/-! ### The framing -/

theorem fillBytes_length (fill : Byte) (count : BitVec 16) : (fillBytes fill count).length = count.toNat :=
  List.length_replicate

/-- Before the end of the frame a chunk has at least one byte and at most P_CHUNK (42_framer R143). -/
theorem chunkBytes_length_bounds {s : State} (h : s.offset.toNat < s.frameLen.toNat) :
    1 ≤ s.chunkBytes.length ∧ s.chunkBytes.length ≤ s.params.chunk.toNat := by
  obtain ⟨hchunk, -⟩ := Params.bounds s.params
  rw [chunkBytes_length, chunkLength_toNat h.le]
  omega

/-- Settles O43: an exchange is made at address 6, 8 or 10, and the invariant gives the pins there. -/
theorem chipSelectFramesTheExchanges : Obligations.ChipSelectFramesTheExchanges := by
  unfold Obligations.ChipSelectFramesTheExchanges
  intro s t tx ok hinv hstep hemitted
  obtain ⟨hrun, hexec⟩ := exec_rom_of_emits_xfer hinv.rom hstep hemitted
  have hplace := (hinv.running hrun).place
  obtain ⟨hchunk, hchunkMax, -, -, hflush, hflushMax, -⟩ := Params.bounds s.params
  obtain ⟨phase, fill, count, hinstr, hfsm, rfl⟩ | ⟨phase, hinstr, hfsm, rfl⟩ := exec_emits_xfer hexec hemitted
  · rw [fillBytes_length]
    obtain ⟨hupc, rfl, -, rfl⟩ | ⟨hupc, rfl, -, rfl⟩ := romProgram_xferc s.upc.isLt hinstr
    · obtain ⟨⟨hcs, hrst⟩, -⟩ := hplace.at_upc (k := 6#4) (BitVec.eq_of_toNat_eq hupc)
      have hone : Config.primeBytes.toNat = 1 := rfl
      exact ⟨hrst, by omega, by omega, .inl ⟨hfsm, hcs⟩⟩
    · obtain ⟨⟨hcs, hrst⟩, -⟩ := hplace.at_upc (k := 10#4) (BitVec.eq_of_toNat_eq hupc)
      exact ⟨hrst, by omega, hflushMax, .inr (.inr ⟨hfsm, hcs⟩)⟩
  · obtain ⟨hupc, rfl⟩ := romProgram_xferi s.upc.isLt hinstr
    obtain ⟨⟨hcs, hrst⟩, -, -, -, hoffset⟩ := hplace.at_upc (k := 8#4) (BitVec.eq_of_toNat_eq hupc)
    obtain ⟨hleast, hmost⟩ := chunkBytes_length_bounds (s := s.popInput) hoffset
    exact ⟨hrst, hleast, hmost.trans hchunkMax, .inr (.inl ⟨hfsm, hcs⟩)⟩

end Sys2Proof.Machine
end

section
/-! PROOFS. The memory family, a block left to itself: each step is the block's turn, and no turn changes the frame that
the session streams (10_state R27, 20_memory R63). -/

namespace Sys2Proof.Machine

/-! ### The block's turn -/

theorem blockTurn_of_idle {s : State} (hrun : s.run = false) : blockTurn s = .next s := by
  simp [blockTurn, hrun]

theorem blockTurn_of_decode {s : State} {i : Instr} (hrun : s.run = true) (h : decodeMicro s.fetch = .ok i) :
    blockTurn s = exec i s := by
  simp [blockTurn, sequencerStep, hrun, h]

/-- With nothing pending the step is the block's turn, and there is no input to take. -/
theorem step_of_no_inputs {s : State} (hinputs : s.inputs = []) : step s = blockTurn s := by
  have hpop : s.popInput = s := by
    cases s
    cases hinputs
    rfl
  simp only [step, hinputs, hpop]

/-! ### What every turn keeps -/

/-- What a session streams, and how, is the same in both states, and so is what is pending. -/
structure FrameKept (s t : State) : Prop where
  params : t.params = s.params
  frameLen : t.frameLen = s.frameLen
  imgRead : ∀ a, t.imgRead a = s.imgRead a
  inputs : t.inputs = s.inputs

theorem FrameKept.refl (s : State) : FrameKept s s := ⟨rfl, rfl, fun _ => rfl, rfl⟩

theorem FrameKept.trans {s t u : State} (h : FrameKept s t) (k : FrameKept t u) : FrameKept s u :=
  ⟨k.params.trans h.params, k.frameLen.trans h.frameLen, fun a => (k.imgRead a).trans (h.imgRead a),
    k.inputs.trans h.inputs⟩

/-- With nothing pending, the next step keeps the frame: CONFIGURE, which sets FRAME_LEN, is no micro-word. -/
theorem step_keeps_frame {s t : State} (hinputs : s.inputs = []) (h : step s = .next t) : FrameKept s t := by
  rw [step_of_no_inputs hinputs] at h
  obtain ⟨-, rfl⟩ | ⟨-, i, hdecode, hexec⟩ := blockTurn_next_cases h
  · exact .refl t
  · obtain ⟨-, hconfigure⟩ := decodeMicro_ne_command hdecode
    have hkept := exec_keeps_hostSide hexec
    exact ⟨hkept.params, exec_keeps_frameLen hexec hconfigure, hkept.imgRead, hkept.inputs⟩

end Sys2Proof.Machine
end

section
/-! PROOFS. The memory family, image bytes at or above FRAME_LEN: an instruction reads the image through its chunk alone,
a chunk lies within the frame (42_framer R143), and so two states that differ beyond the frame run in step. -/

namespace Sys2Proof.Machine

/-! ### The same state with another image -/

/-- The state with another image buffer, unspecified contents included (log entry 1). -/
def State.withImage (s : State) (image : Memory) (epoch : Nat) : State :=
  { s with img := image, imgEpoch := epoch }

/-- The chunk of a state whose OFFSET lies within the frame holds no byte at or above FRAME_LEN (42_framer R143). -/
theorem chunkBytes_withImage {s : State} {image : Memory} {epoch : Nat} (hoffset : s.offset.toNat ≤ s.frameLen.toNat)
    (h : ∀ a < s.frameLen.toNat, (s.withImage image epoch).imgRead a = s.imgRead a) :
    (s.withImage image epoch).chunkBytes = s.chunkBytes := by
  have hlength := chunkLength_toNat hoffset
  refine List.map_congr_left fun j hj => h (s.offset.toNat + j) ?_
  have hj : j < s.chunkLength.toNat := List.mem_range.mp hj
  omega

/-! ### Instructions read the image through the chunk alone

In each operation's meaning the two states take the same branch, because no test looks at the image. -/

section
variable (s : State) (image : Memory) (epoch : Nat)

theorem execInit_eq : execInit s = .next (if s.life = .unbound then bringUp s else s) := by
  unfold execInit
  cases s.life <;> rfl

theorem bringUp_withImage : bringUp (s.withImage image epoch) = (bringUp s).withImage image epoch := by
  simp only [bringUp, apply_ite (State.withImage · image epoch)]
  rfl

theorem validateInput_withImage :
    validateInput (s.withImage image epoch) = (validateInput s).withImage image epoch := by
  simp only [validateInput, apply_ite (State.withImage · image epoch)]
  rfl

theorem sendFill_withImage (fill : Byte) (count : BitVec 16) :
    sendFill fill count (s.withImage image epoch) = (sendFill fill count s).withImage image epoch := by
  simp only [sendFill, apply_ite (State.withImage · image epoch)]
  rfl

theorem chunkSent_withImage (k : BitVec 16) :
    chunkSent k (s.withImage image epoch) = (chunkSent k s).withImage image epoch := by
  simp only [chunkSent, apply_ite (State.withImage · image epoch)]
  rfl

theorem sendChunk_withImage (h : (s.withImage image epoch).chunkBytes = s.chunkBytes) :
    sendChunk (s.withImage image epoch) = (sendChunk s).withImage image epoch := by
  simp only [sendChunk, h, apply_ite (State.withImage · image epoch), ← chunkSent_withImage]
  rfl

theorem judgeSample_withImage (level : Level) :
    judgeSample level (s.withImage image epoch) = (judgeSample level s).withImage image epoch := by
  simp only [judgeSample, apply_ite (State.withImage · image epoch)]
  rfl

theorem pollOnce_withImage : pollOnce (s.withImage image epoch) = (pollOnce s).withImage image epoch := by
  simp only [pollOnce, apply_ite (State.withImage · image epoch), ← judgeSample_withImage]
  rfl

end

theorem exec_withImage {i : Instr} {s t : State} {image : Memory} {epoch : Nat}
    (hchunk : (s.withImage image epoch).chunkBytes = s.chunkBytes) (h : exec i s = .next t) :
    exec i (s.withImage image epoch) = .next (t.withImage image epoch) := by
  cases i with
  | init =>
    obtain rfl := Host.Outcome.next.inj ((execInit_eq s).symm.trans h)
    simp only [apply_ite (State.withImage · image epoch), ← bringUp_withImage]
    exact execInit_eq _
  | configure =>
    obtain rfl := Host.Outcome.next.inj h
    simp only [apply_ite (State.withImage · image epoch), ← validateInput_withImage]
    rfl
  | setpin phase pin level =>
    obtain rfl := Host.Outcome.next.inj h
    cases pin <;> rfl
  | delay phase d =>
    obtain rfl := Host.Outcome.next.inj h
    rfl
  | xferc phase fill count =>
    obtain rfl := exec_xferc_next h
    have hcount : count ≠ 0#16 := by
      rintro rfl
      cases h
    rw [← sendFill_withImage]
    exact execXferc_of_count_ne_zero phase fill hcount _
  | xferi phase =>
    obtain rfl := Host.Outcome.next.inj h
    rw [← sendChunk_withImage (s.setFsm phase) image epoch hchunk]
    rfl
  | poll phase =>
    obtain rfl := Host.Outcome.next.inj h
    rw [← pollOnce_withImage]
    rfl
  | endOp phase code =>
    obtain rfl := Host.Outcome.next.inj h
    rfl

/-! ### Runs in step -/

theorem step_withImage {s t : State} {image : Memory} {epoch : Nat} (hinv : Inv s) (hinputs : s.inputs = [])
    (hframe : ∀ a < s.frameLen.toNat, (s.withImage image epoch).imgRead a = s.imgRead a) (h : step s = .next t) :
    step (s.withImage image epoch) = .next (t.withImage image epoch) := by
  rw [step_of_no_inputs hinputs] at h
  rw [step_of_no_inputs (s := s.withImage image epoch) hinputs]
  obtain ⟨hrun, rfl⟩ | ⟨hrun, i, hdecode, hexec⟩ := blockTurn_next_cases h
  · exact blockTurn_of_idle hrun
  · rw [blockTurn_of_decode (s := s.withImage image epoch) hrun hdecode]
    exact exec_withImage (chunkBytes_withImage (hinv.running hrun).offset hframe) hexec

theorem runsTo_withImage {n : Nat} {s t : State} {image : Memory} {epoch : Nat} (hinv : Inv s)
    (hinputs : s.inputs = []) (hframe : ∀ a < s.frameLen.toNat, (s.withImage image epoch).imgRead a = s.imgRead a)
    (h : RunsTo n s t) : RunsTo n (s.withImage image epoch) (t.withImage image epoch) := by
  induction n generalizing s with
  | zero =>
    obtain rfl : t = s := h
    rfl
  | succ n ih =>
    obtain ⟨u, hstep, hrest⟩ := h
    have hkept := step_keeps_frame hinputs hstep
    have hframe' : ∀ a < u.frameLen.toNat, (u.withImage image epoch).imgRead a = u.imgRead a := fun a ha =>
      calc (u.withImage image epoch).imgRead a
        _ = (s.withImage image epoch).imgRead a := State.imgRead_congr rfl rfl a
        _ = s.imgRead a := hframe a (hkept.frameLen ▸ ha)
        _ = u.imgRead a := (hkept.imgRead a).symm
    exact ⟨u.withImage image epoch, step_withImage hinv hinputs hframe hstep,
      ih (everyStepKeepsTheInvariant s u hinv hstep) (hkept.inputs.trans hinputs) hframe' hrest⟩

/-- Settles O54: the run of the first state, with the second one's image, is a run of the second state. -/
theorem bytesBeyondTheFrameAreNeverRead : Obligations.BytesBeyondTheFrameAreNeverRead := by
  unfold Obligations.BytesBeyondTheFrameAreNeverRead
  intro s s' t n hinv _ hinputs hother hframe hruns
  have hs' : s' = s.withImage s'.img s'.imgEpoch := hother
  refine ⟨t.withImage s'.img s'.imgEpoch, ?_, rfl⟩
  rw [hs'] at hframe ⊢
  exact runsTo_withImage hinv hinputs hframe hruns

end Sys2Proof.Machine
end

section
/-! PROOFS. The memory family, the event list of a session: the chunks are the image in order (42_framer R143, R144), and
what stands before each address of the program (41_sequencer R120). -/

namespace Sys2Proof.Machine

/-! ### Runs -/

/-- What holds at the start of a run and is kept by every step holds at its end. -/
theorem RunsTo.preserves {P : State → Prop} (hstep : ∀ u v, P u → step u = .next v → P v) {n : Nat} {s t : State}
    (hs : P s) (h : RunsTo n s t) : P t := by
  induction n generalizing s with
  | zero =>
    obtain rfl : t = s := h
    exact hs
  | succ n ih =>
    obtain ⟨u, hu, hrest⟩ := h
    exact ih (hstep s u hs hu) hrest

theorem Emitted.append {s u t : State} {before more : List Event} (h : Emitted s u before)
    (htrace : t.trace = u.trace ++ more) : Emitted s t (before ++ more) := by
  rw [Emitted, htrace, h, List.append_assoc]

/-! ### Slices of the image -/

theorem imageSlice_append (s : State) (n k : Nat) :
    imageSlice s 0 (n + k) = imageSlice s 0 n ++ imageSlice s n (n + k) := by
  simp [imageSlice, List.range_add]

theorem imageSlice_congr {s t : State} (h : ∀ a, t.imgRead a = s.imgRead a) (a b : Nat) :
    imageSlice t a b = imageSlice s a b := by
  simp [imageSlice, h]

theorem imageSlice_length (s : State) (a b : Nat) : (imageSlice s a b).length = b - a := by
  simp [imageSlice]

theorem chunkBytes_eq_imageSlice (s : State) :
    s.chunkBytes = imageSlice s s.offset.toNat (s.offset.toNat + s.chunkLength.toNat) := by
  simp [State.chunkBytes, imageSlice]

theorem offset_add_chunkLength_toNat {s : State} (h : s.offset.toNat ≤ s.frameLen.toNat) :
    (s.offset + s.chunkLength).toNat = s.offset.toNat + s.chunkLength.toNat := by
  have hframe := s.frameLen.isLt
  have hlength := chunkLength_toNat h
  rw [BitVec.toNat_add]
  omega

/-! ### The chunks of a session (42_framer R143, R144) -/

/-- Successful exchanges that have sent the first `offset` bytes of the frame, each of P_CHUNK bytes but for what is left
of the frame at its end. -/
structure ChunksSent (s : State) (chunks : List Event) (offset : Nat) : Prop where
  bytes : busBytes chunks = imageSlice s 0 offset
  sizes : ∀ e ∈ chunks, ∃ tx, e = .xfer tx true ∧ 1 ≤ tx.length ∧ tx.length ≤ s.params.chunk.toNat
  offset_eq : offset = min (chunks.length * s.params.chunk.toNat) s.frameLen.toNat
  needed : chunks.length * s.params.chunk.toNat < s.frameLen.toNat + s.params.chunk.toNat

theorem ChunksSent.nil (s : State) : ChunksSent s [] 0 where
  bytes := rfl
  sizes := nofun
  offset_eq := by simp
  needed := by
    obtain ⟨hchunk, -⟩ := Params.bounds s.params
    simp only [List.length_nil]
    omega

/-- One more chunk, as XFERI makes it. -/
theorem ChunksSent.snoc {s : State} {chunks : List Event} {offset k : Nat} (h : ChunksSent s chunks offset)
    (hbefore : offset < s.frameLen.toNat) (hk : k = min s.params.chunk.toNat (s.frameLen.toNat - offset)) :
    ChunksSent s (chunks ++ [.xfer (imageSlice s offset (offset + k)) true]) (offset + k) := by
  obtain ⟨hchunk, -⟩ := Params.bounds s.params
  obtain ⟨hbytes, hsizes, hoffset, hneeded⟩ := h
  have hcount : (chunks.length + 1) * s.params.chunk.toNat =
      chunks.length * s.params.chunk.toNat + s.params.chunk.toNat := Nat.succ_mul _ _
  refine ⟨?_, fun e he => ?_, ?_, ?_⟩
  · simp [busBytes, hbytes, imageSlice_append]
  · obtain hold | hnew := List.mem_append.mp he
    · exact hsizes e hold
    · refine ⟨_, List.mem_singleton.mp hnew, ?_, ?_⟩ <;> rw [imageSlice_length] <;> omega
  · rw [List.length_append, List.length_singleton]
    omega
  · rw [List.length_append, List.length_singleton]
    omega

/-- The chunks that send the whole frame are ceil(L / C) (42_framer R144). -/
theorem ChunksSent.length_eq {s : State} {chunks : List Event} (h : ChunksSent s chunks s.frameLen.toNat) :
    chunks.length = chunkCount s := by
  obtain ⟨hchunk, -⟩ := Params.bounds s.params
  have hoffset := h.offset_eq
  have hneeded := h.needed
  refine (Nat.div_eq_of_lt_le ?_ ?_).symm
  · omega
  · rw [Nat.succ_mul]
    omega

theorem ChunksSent.eq_nil {s : State} {chunks : List Event} (h : ChunksSent s chunks 0)
    (hlength : 1 ≤ s.frameLen.toNat) : chunks = [] := by
  obtain ⟨hchunk, -⟩ := Params.bounds s.params
  have hoffset := h.offset_eq
  have hnone : chunks.length * s.params.chunk.toNat = 0 := by omega
  obtain hnil | hzero := Nat.mul_eq_zero.mp hnone
  · exact List.eq_nil_of_length_eq_zero hnil
  · omega

/-! ### The events before each address -/

/-- Below the budget POLLS counts without wrapping (43_poller R160). -/
theorem polls_add_one_toNat {s : State} (h : s.polls.toNat < s.pollBudget.toNat) :
    (s.polls + 1#16).toNat = s.polls.toNat + 1 := by
  have hbudget := s.pollBudget.isLt
  rw [BitVec.toNat_add, BitVec.toNat_ofNat]
  omega

/-- `n` inactive samples, each followed by the poll interval (43_poller R160). -/
def missedPolls (p : Params) (n : Nat) : List Event :=
  (List.replicate n [.sample (!p.doneActive), .wait p.pollIntervalUs]).flatten

theorem missedPolls_succ (p : Params) (n : Nat) :
    missedPolls p (n + 1) = missedPolls p n ++ [.sample (!p.doneActive), .wait p.pollIntervalUs] := by
  simp [missedPolls, List.replicate_succ']

theorem missedPolls_append_sample (p : Params) (n : Nat) (last : Level) :
    missedPolls p n ++ [.sample last] = pollEvents p n last := by
  induction n with
  | zero => rfl
  | succ n ih => simpa [missedPolls, pollEvents, List.replicate_succ] using ih

/-- The events up to and with the given chunks. -/
def streamedEvents (p : Params) (chunks : List Event) : List Event :=
  resetEvents p ++ [.xfer [0x00#8] true, .setPin .csN false] ++ chunks

/-- The events up to and with the flush. -/
def flushedEvents (p : Params) (chunks : List Event) : List Event :=
  streamedEvents p chunks ++ [.setPin .csN true, .xfer (List.replicate p.flushBytes.toNat p.flushFill) true]

/-- The events of a session before the word at an address of the forward path runs, with the chunks sent and the samples
taken so far (41_sequencer R120). -/
def eventsBefore (p : Params) (chunks : List Event) (polls : Nat) : Nat → List Event
  | 7 => resetEvents p ++ [.xfer [0x00#8] true]
  | 8 => streamedEvents p chunks
  | 9 => streamedEvents p chunks
  | 10 => streamedEvents p chunks ++ [.setPin .csN true]
  | 11 => flushedEvents p chunks ++ missedPolls p polls
  | 12 => flushedEvents p chunks ++ pollEvents p (polls - 1) p.doneActive
  | address => (resetEvents p).take address

theorem eventsBefore_chunk (p : Params) (chunks : List Event) (e : Event) (n : Nat) :
    eventsBefore p (chunks ++ [e]) n 8 = eventsBefore p chunks n 8 ++ [e] := by
  simp [eventsBefore, streamedEvents]

theorem eventsBefore_inactive_sample (p : Params) (chunks : List Event) (n : Nat) :
    eventsBefore p chunks (n + 1) 11 =
      eventsBefore p chunks n 11 ++ [.sample (!p.doneActive), .wait p.pollIntervalUs] := by
  simp [eventsBefore, missedPolls_succ]

theorem eventsBefore_active_sample (p : Params) (chunks : List Event) (n : Nat) :
    eventsBefore p chunks (n + 1) 12 = eventsBefore p chunks n 11 ++ [.sample p.doneActive] := by
  simp [eventsBefore, ← missedPolls_append_sample]

end Sys2Proof.Machine
end

section
/-! PROOFS. The memory family, the image on the wire: each word of the program carries the session on, and so a session that
ends with Done has emitted the whole forward path (41_sequencer R120, 42_framer R144, R145, 43_poller R162). -/

namespace Sys2Proof.Machine

/-! ### The session so far -/

/-- The session that began in `s` has come to `u` without a failure, up to the word at the address. -/
def ForwardTo (s u : State) (address : Nat) : Prop :=
  ∃ chunks, ChunksSent s chunks u.offset.toNat ∧ Emitted s u (eventsBefore s.params chunks u.polls.toNat address)

/-- What is known in `u` of the session that began in `s`: its events so far while it runs on the forward path, and all of
them once it has ended with Done. -/
structure SessionSoFar (s u : State) : Prop where
  kept : FrameKept s u
  forward : u.run = true → u.upc.toNat ≤ 12 → ForwardTo s u u.upc.toNat
  ended : u.run = false → u.outcome = .done → ∃ chunks, ChunksSent s chunks s.frameLen.toNat ∧ 1 ≤ u.polls.toNat ∧
    Emitted s u (eventsBefore s.params chunks u.polls.toNat 12 ++ [.finish .done])

theorem SessionSoFar.forward_at {s u : State} {k : Nat} (h : SessionSoFar s u) (hrun : u.run = true)
    (hupc : u.upc = BitVec.ofNat 4 k) (hk : k ≤ 12) : ForwardTo s u k := by
  have hat : u.upc.toNat = k := by
    rw [hupc, BitVec.toNat_ofNat]
    omega
  exact hat ▸ h.forward hrun (hat ▸ hk)

theorem SessionSoFar.of_forward {s u : State} {k : Nat} (hkept : FrameKept s u) (hrun : u.run = true)
    (hupc : u.upc.toNat = k) (hforward : ForwardTo s u k) : SessionSoFar s u where
  kept := hkept
  forward _ _ := hupc ▸ hforward
  ended hstopped := absurd (hstopped.symm.trans hrun) Bool.false_ne_true

/-- The failure path is not followed. -/
theorem SessionSoFar.of_failing {s u : State} (k : Nat) (hkept : FrameKept s u) (hrun : u.run = true)
    (hupc : u.upc.toNat = k) (hk : 12 < k) : SessionSoFar s u where
  kept := hkept
  forward _ hle := absurd (hupc ▸ hle) (Nat.not_le.mpr hk)
  ended hstopped := absurd (hstopped.symm.trans hrun) Bool.false_ne_true

theorem SessionSoFar.begin {s : State} (hinv : Inv s) (h : SessionBegins s) : SessionSoFar s s := by
  obtain ⟨hrun, hupc, -⟩ := h
  obtain ⟨-, -, hoffset, -⟩ := (hinv.running hrun).place.at_upc hupc
  have hoffset : s.offset = 0#16 := hoffset
  refine .of_forward (.refl s) hrun (congrArg BitVec.toNat hupc) ⟨[], ?_, ?_⟩
  · rw [hoffset]
    exact .nil s
  · exact (List.append_nil _).symm

/-! ### The words that are run once -/

/-- The step has emitted one event and gone to the next address, and has counted nothing. -/
structure Passes (u t : State) (e : Event) : Prop where
  upc : t.upc = u.upc + 1#4
  trace : t.trace = u.trace ++ [e]
  offset : t.offset = u.offset
  polls : t.polls = u.polls
  run : t.run = u.run

theorem exec_setpin_passes {phase : Fsm} {pin : OutPin} {level : Level} {u t : State}
    (h : exec (.setpin phase pin level) u = .next t) : Passes u t (.setPin pin level) := by
  obtain rfl := Host.Outcome.next.inj h
  cases pin <;> exact ⟨rfl, rfl, rfl, rfl, rfl⟩

theorem exec_delay_passes {phase : Fsm} {d : BitVec 24} {u t : State} (h : exec (.delay phase d) u = .next t) :
    Passes u t (.delay d.toNat) := by
  obtain rfl := Host.Outcome.next.inj h
  exact ⟨rfl, rfl, rfl, rfl, rfl⟩

/-- An exchange of constant bytes passes, or enters the failure path (42_framer R141). -/
theorem exec_xferc_passes {phase : Fsm} {fill : Byte} {count : BitVec 16} {u t : State}
    (h : exec (.xferc phase fill count) u = .next t) :
    Passes u t (.xfer (List.replicate count.toNat fill) true) ∨ (t.upc = 13#4 ∧ t.run = u.run) := by
  obtain rfl := exec_xferc_next h
  obtain ⟨-, heq⟩ | ⟨-, heq⟩ := sendFill_cases fill count (u.setFsm phase)
  · rw [heq]
    exact .inl ⟨rfl, rfl, rfl, rfl, rfl⟩
  · rw [heq]
    exact .inr ⟨rfl, rfl⟩

/-! ### Each word of the program carries the session on -/

section
variable {s u t : State} (h : SessionSoFar s u) (hkept : FrameKept u t)
include h hkept

theorem SessionSoFar.of_passes {k : Nat} {e : Event} (hrun : u.run = true) (hupc : u.upc = BitVec.ofNat 4 k)
    (hk : k < 12) (hpasses : Passes u t e)
    (hevents : ∀ chunks, ChunksSent s chunks u.offset.toNat →
      eventsBefore s.params chunks u.polls.toNat (k + 1) =
        eventsBefore s.params chunks u.polls.toNat k ++ [e]) : SessionSoFar s t := by
  obtain ⟨hnext, htrace, hoffset, hpolls, hrun'⟩ := hpasses
  have hat : t.upc.toNat = k + 1 := by
    rw [hnext, hupc, BitVec.toNat_add, BitVec.toNat_ofNat, BitVec.toNat_ofNat]
    omega
  obtain ⟨chunks, hchunks, hemitted⟩ := h.forward_at hrun hupc hk.le
  refine .of_forward (h.kept.trans hkept) (hrun'.trans hrun) hat ⟨chunks, hoffset ▸ hchunks, ?_⟩
  rw [hpolls, hevents chunks hchunks]
  exact hemitted.append htrace

/-- An exchange of constant bytes: on to the next address, or to the failure path. -/
theorem SessionSoFar.of_xferc {phase : Fsm} {fill : Byte} {count : BitVec 16} {k : Nat} (hrun : u.run = true)
    (hupc : u.upc = BitVec.ofNat 4 k) (hk : k < 12) (hexec : exec (.xferc phase fill count) u = .next t)
    (hevents : ∀ chunks, ChunksSent s chunks u.offset.toNat →
      eventsBefore s.params chunks u.polls.toNat (k + 1) =
        eventsBefore s.params chunks u.polls.toNat k ++ [.xfer (List.replicate count.toNat fill) true]) :
    SessionSoFar s t := by
  obtain hpasses | ⟨hfailed, hrun'⟩ := exec_xferc_passes hexec
  · exact h.of_passes hkept hrun hupc hk hpasses hevents
  · exact .of_failing 13 (h.kept.trans hkept) (hrun'.trans hrun) (congrArg BitVec.toNat hfailed) (by decide)

/-- XFERI at address 8: one more chunk, or the failure path (42_framer R143). -/
theorem SessionSoFar.of_xferi (hinv : Inv u) (hrun : u.run = true) (hupc : u.upc = 8#4)
    (hexec : exec (.xferi .streaming) u = .next t) : SessionSoFar s t := by
  obtain ⟨-, -, -, -, hbefore⟩ := (hinv.running hrun).place.at_upc hupc
  have hbefore : u.offset.toNat < u.frameLen.toNat := hbefore
  obtain ⟨chunks, hchunks, hemitted⟩ := h.forward_at hrun (k := 8) hupc (by decide)
  have hlength : u.chunkLength.toNat = min s.params.chunk.toNat (s.frameLen.toNat - u.offset.toNat) := by
    rw [chunkLength_toNat hbefore.le, h.kept.params, h.kept.frameLen]
  have hmore := hchunks.snoc (h.kept.frameLen ▸ hbefore) hlength
  rw [← imageSlice_congr h.kept.imgRead, ← chunkBytes_eq_imageSlice, ← offset_add_chunkLength_toNat hbefore.le]
    at hmore
  have hsent : ∀ v : State, v.trace = u.trace ++ [.xfer u.chunkBytes true] →
      Emitted s v (eventsBefore s.params (chunks ++ [.xfer u.chunkBytes true]) u.polls.toNat 8) := fun v htrace =>
    eventsBefore_chunk .. ▸ hemitted.append htrace
  have hkept' := h.kept.trans hkept
  obtain rfl := Host.Outcome.next.inj hexec
  obtain ⟨-, -, heq⟩ | ⟨-, -, heq⟩ | ⟨-, heq⟩ := sendChunk_cases (u.setFsm .streaming)
  · rw [heq] at hkept' ⊢
    exact .of_forward (k := 9) hkept' hrun (by simp [hupc]) ⟨_, hmore, hsent _ rfl⟩
  · rw [heq] at hkept' ⊢
    exact .of_forward (k := 8) hkept' hrun (by simp [hupc]) ⟨_, hmore, hsent _ rfl⟩
  · rw [heq] at hkept' ⊢
    exact .of_failing 13 hkept' hrun rfl (by decide)

/-- POLL at address 11: the active sample, one more inactive sample and its wait, or the failure path (43_poller
R160). -/
theorem SessionSoFar.of_poll (hrun : u.run = true) (hupc : u.upc = 11#4)
    (hexec : exec (.poll .awaitingCompletion) u = .next t) : SessionSoFar s t := by
  obtain ⟨chunks, hchunks, hemitted⟩ := h.forward_at hrun (k := 11) hupc (by decide)
  have hkept' := h.kept.trans hkept
  obtain rfl := Host.Outcome.next.inj hexec
  obtain ⟨-, heq⟩ | ⟨hleft, hactive, heq⟩ | ⟨-, -, -, heq⟩ | ⟨hleft, hinactive, -, heq⟩ :=
    pollOnce_cases (u.setFsm .awaitingCompletion)
  · rw [heq] at hkept' ⊢
    exact .of_failing 15 hkept' hrun rfl (by decide)
  · rw [heq] at hkept' ⊢
    have hlevel : u.doneSample = s.params.doneActive := h.kept.params ▸ hactive
    have hevents := eventsBefore_active_sample s.params chunks u.polls.toNat
    rw [← polls_add_one_toNat (s := u) hleft, ← hlevel] at hevents
    exact .of_forward (k := 12) hkept' hrun (by simp [hupc]) ⟨chunks, hchunks, hevents ▸ hemitted.append rfl⟩
  · rw [heq] at hkept' ⊢
    exact .of_failing 15 hkept' hrun rfl (by decide)
  · rw [heq] at hkept' ⊢
    have hlevel : u.doneSample = !s.params.doneActive := by
      rw [← h.kept.params]
      exact Bool.eq_not_of_ne hinactive
    have hevents := eventsBefore_inactive_sample s.params chunks u.polls.toNat
    have hwait : s.params.pollIntervalUs = u.params.pollIntervalUs := by rw [h.kept.params]
    rw [← polls_add_one_toNat (s := u) hleft, ← hlevel, hwait] at hevents
    exact .of_forward (k := 11) hkept' hrun (by simp [hupc])
      ⟨chunks, hchunks, hevents ▸ hemitted.append (List.append_assoc ..)⟩

/-- The END of address 12 ends the forward path (43_poller R166). -/
theorem SessionSoFar.of_end_done (hinv : Inv u) (hrun : u.run = true) (hupc : u.upc = 12#4)
    (hexec : exec (.endOp .done .done) u = .next t) : SessionSoFar s t := by
  obtain ⟨-, -, ⟨hall, -⟩, hpolls⟩ := (hinv.running hrun).place.at_upc hupc
  have hall : u.offset = u.frameLen := hall
  obtain ⟨chunks, hchunks, hemitted⟩ := h.forward_at hrun (k := 12) hupc (by decide)
  rw [hall, h.kept.frameLen] at hchunks
  obtain rfl := Host.Outcome.next.inj hexec
  exact ⟨h.kept.trans hkept, nofun, fun _ _ => ⟨chunks, hchunks, hpolls, hemitted.append rfl⟩⟩

theorem SessionSoFar.of_end_failed {phase : Fsm} {code : SessionOutcome} (hcode : code ≠ .done)
    (hexec : exec (.endOp phase code) u = .next t) : SessionSoFar s t := by
  obtain rfl := Host.Outcome.next.inj hexec
  exact ⟨h.kept.trans hkept, nofun, fun _ hdone => absurd hdone hcode⟩

end

/-- The cases are the addresses of 41_sequencer R120, in order. -/
theorem SessionSoFar.of_exec_rom {s u t : State} (h : SessionSoFar s u) (hkept : FrameKept u t) (hinv : Inv u)
    (hrun : u.run = true) (hexec : exec (romProgram u.params)[u.upc.toNat] u = .next t) : SessionSoFar s t := by
  have hplace := (hinv.running hrun).place
  have hlength := (hinv.running hrun).length
  obtain ⟨k, hk, hupc⟩ : ∃ k : Nat, u.upc.toNat = k ∧ u.upc = BitVec.ofNat 4 k := ⟨_, rfl, by simp⟩
  have hlt : k < 16 := hk ▸ u.upc.isLt
  simp only [hk, h.kept.params] at hexec
  interval_cases k
  · exact h.of_passes hkept hrun hupc (by decide) (exec_setpin_passes hexec) fun _ _ => rfl
  · exact h.of_passes hkept hrun hupc (by decide) (exec_setpin_passes hexec) fun _ _ => rfl
  · exact h.of_passes hkept hrun hupc (by decide) (exec_delay_passes hexec) fun _ _ => rfl
  · exact h.of_passes hkept hrun hupc (by decide) (exec_setpin_passes hexec) fun _ _ => rfl
  · exact h.of_passes hkept hrun hupc (by decide) (exec_delay_passes hexec) fun _ _ => rfl
  · exact h.of_passes hkept hrun hupc (by decide) (exec_setpin_passes hexec) fun _ _ => rfl
  · exact h.of_xferc hkept hrun hupc (by decide) hexec fun _ _ => rfl
  · obtain ⟨-, -, hoffset, -⟩ := hplace.at_upc hupc
    have hoffset : u.offset = 0#16 := hoffset
    refine h.of_passes hkept hrun hupc (by decide) (exec_setpin_passes hexec) fun chunks hchunks => ?_
    rw [hoffset] at hchunks
    obtain rfl := hchunks.eq_nil (h.kept.frameLen ▸ hlength)
    rfl
  · exact h.of_xferi hkept hinv hrun hupc hexec
  · exact h.of_passes hkept hrun hupc (by decide) (exec_setpin_passes hexec) fun _ _ => rfl
  · obtain ⟨-, -, -, hpolls⟩ := hplace.at_upc hupc
    have hpolls : u.polls = 0#16 := hpolls
    refine h.of_xferc hkept hrun hupc (by decide) hexec fun chunks _ => ?_
    simp [eventsBefore, flushedEvents, missedPolls, hpolls]
  · exact h.of_poll hkept hrun hupc hexec
  · exact h.of_end_done hkept hinv hrun hupc hexec
  · have hpasses := exec_setpin_passes hexec
    exact .of_failing 14 (h.kept.trans hkept) (hpasses.run.trans hrun) (by simp [hpasses.upc, hupc]) (by decide)
  · exact h.of_end_failed hkept (code := .transportFailure) nofun hexec
  · exact h.of_end_failed hkept (code := .completionTimeout) nofun hexec

/-! ### Whole sessions -/

theorem SessionSoFar.step {s u t : State} (h : SessionSoFar s u) (hinv : Inv u) (hinputs : u.inputs = [])
    (hstep : step u = .next t) : SessionSoFar s t := by
  have hkept := step_keeps_frame hinputs hstep
  rw [step_of_no_inputs hinputs] at hstep
  obtain ⟨-, rfl⟩ | ⟨hrun, -⟩ := blockTurn_next_cases hstep
  · exact h
  · rw [blockTurn_rom hrun hinv.rom] at hstep
    exact h.of_exec_rom hkept hinv hrun hstep

theorem SessionSoFar.of_runsTo {n : Nat} {s t : State} (hinv : Inv s) (hbegins : SessionBegins s)
    (hruns : RunsTo n s t) : SessionSoFar s t := by
  have ⟨_, _, hinputs⟩ := hbegins
  have ⟨_, _, hsofar⟩ := hruns.preserves (P := fun u => Inv u ∧ u.inputs = [] ∧ SessionSoFar s u)
    (fun u v ⟨hinv, hinputs, hsofar⟩ hstep =>
      ⟨everyStepKeepsTheInvariant u v hinv hstep, (step_keeps_frame hinputs hstep).inputs.trans hinputs,
        hsofar.step hinv hinputs hstep⟩)
    ⟨hinv, hinputs, .begin hinv hbegins⟩
  exact hsofar

/-- Settles O48: what is known of a session that has ended with Done, with the chunks' count. -/
theorem doneSessionsStreamTheImageWhole : Obligations.DoneSessionsStreamTheImageWhole := by
  unfold Obligations.DoneSessionsStreamTheImageWhole
  intro s t n hinv hbegins hruns hstopped hdone
  obtain ⟨chunks, hchunks, hpolls, hemitted⟩ := (SessionSoFar.of_runsTo hinv hbegins hruns).ended hstopped hdone
  refine ⟨chunks, ?_, hpolls, hchunks.bytes, hchunks.length_eq, hchunks.sizes⟩
  simpa [eventsBefore, flushedEvents, streamedEvents] using hemitted

end Sys2Proof.Machine
end

section
/-! PROOFS. The encoding family, the round trip (30_encoding R71 to R80): each form of operand is read back from its
encoding, no micro-word is a command word, and a word that decodes is put together again from its fields. -/

namespace Sys2Proof

/-! ### The fields of an operand (30_encoding R76) -/

theorem setpinOperand_zeros (pin : OutPin) (level : Level) :
    (setpinOperand pin level).extractLsb' 5 19 = 0 ∧ (setpinOperand pin level).extractLsb' 1 3 = 0 := by
  cases pin <;> cases level <;> decide

@[simp] theorem pin_setpinOperand (pin : OutPin) (level : Level) : (setpinOperand pin level)[4] = pin.code := by
  simp [setpinOperand]

@[simp] theorem level_setpinOperand (pin : OutPin) (level : Level) : (setpinOperand pin level)[0] = level := by
  simp [setpinOperand]

theorem code_field (c : BitVec 3) : (c.setWidth 24).extractLsb' 0 3 = c := by
  revert c; decide

theorem code_zeros (c : BitVec 3) : (c.setWidth 24).extractLsb' 3 21 = 0 := by
  revert c; decide

/-- The CODE field names the outcome that has it as its code (60_exceptions R200). -/
theorem SessionOutcome.code_of_ofCode? {c : BitVec 3} {o : SessionOutcome} (h : SessionOutcome.ofCode? c = some o) :
    o.code = c := by
  revert c; cases o <;> decide

/-! ### What is encoded decodes -/

@[simp] theorem decodeSetpin_setpinOperand (phase : Fsm) (pin : OutPin) (level : Level) :
    decodeSetpin phase (setpinOperand pin level) = .ok (.setpin phase pin level) := by
  simp [decodeSetpin, setpinOperand_zeros]

@[simp] theorem decodeNoOperand_zero (i : Instr) : decodeNoOperand i 0#24 = .ok i := rfl

@[simp] theorem decodeEnd_code (phase : Fsm) (code : SessionOutcome) :
    decodeEnd phase (code.code.setWidth 24) = .ok (.endOp phase code) := by
  simp [decodeEnd, code_zeros, code_field]

/-- Both command words have UOP 0, which no micro-operation has (30_encoding R72, R75). -/
theorem decodeCommand_of_uopField_ne_zero {w : Word} (h : uopField w ≠ 0#4) :
    decodeCommand w = .error .reservedCommand := by
  have hinit : w ≠ 1#32 := fun heq => h (heq ▸ rfl)
  have hconfigure : w ≠ 2#32 := fun heq => h (heq ▸ rfl)
  simp [decodeCommand, hinit, hconfigure]

theorem decodeWord_microWord {uop : BitVec 4} (h : uop ≠ 0#4) (phase : Fsm) (operand : BitVec 24) :
    decodeWord (microWord uop phase operand) = decodeMicro (microWord uop phase operand) := by
  have hcommand := decodeCommand_of_uopField_ne_zero (w := microWord uop phase operand) (by simpa using h)
  simp [decodeWord, hcommand]

/-- Settles O1: the two command words by their values, and each micro-word by its fields. -/
theorem decodeOfEncodeIsTheInstruction : Obligations.DecodeOfEncodeIsTheInstruction := by
  unfold Obligations.DecodeOfEncodeIsTheInstruction
  intro i hwf
  cases i with
  | init => rfl
  | configure => rfl
  | setpin phase pin level => simp [encode, decodeWord_microWord, decodeMicro]
  | delay phase t => simp [encode, decodeWord_microWord, decodeMicro_delay]
  | xferc phase fill count =>
    have hcount : count ≠ 0#16 := by simpa [Instr.wellFormed] using hwf
    simp [encode, decodeWord_microWord, decodeMicro_xferc phase fill hcount]
  | xferi phase => simp [encode, decodeWord_microWord, decodeMicro]
  | poll phase => simp [encode, decodeWord_microWord, decodeMicro]
  | endOp phase code => simp [encode, decodeWord_microWord, decodeMicro]

/-- Settles O4: each word is the encoding of its instruction, and so decodes to it. -/
theorem listedWordsDecode : Obligations.ListedWordsDecode := by
  unfold Obligations.ListedWordsDecode
  have hlisted {w : Word} {i : Instr} (hencode : encode i = w) (hwf : i.wellFormed = true) : decodeWord w = .ok i :=
    hencode ▸ decodeOfEncodeIsTheInstruction i hwf
  exact ⟨hlisted rfl rfl, hlisted rfl rfl, hlisted (by decide) rfl, hlisted (by decide) rfl, hlisted (by decide) rfl,
    hlisted (by decide) rfl, hlisted (by decide) rfl, hlisted (by decide) rfl⟩

/-! ### A word is its fields -/

/-- Two values that agree on a field agree on each bit of it. -/
theorem getElem_eq_of_extractLsb'_eq {n start len i : Nat} {x y : BitVec n}
    (h : x.extractLsb' start len = y.extractLsb' start len) (hstart : start ≤ i) (hlen : i < start + len) (hi : i < n) :
    x[i] = y[i] := by
  have hbit := congrArg (fun z => z.getLsbD (i - start)) h
  simpa [show i - start < len by omega, show start + (i - start) = i by omega, BitVec.getLsbD_eq_getElem hi] using hbit

theorem word_eq_of_fields_eq {v w : Word} (huop : uopField v = uopField w) (hphase : phaseField v = phaseField w)
    (hbit24 : v[24] = w[24]) (hoperand : operandField v = operandField w) : v = w := by
  ext i hi
  obtain hin | rfl | ⟨hfrom, hin⟩ | hfrom : i < 24 ∨ i = 24 ∨ (25 ≤ i ∧ i < 28) ∨ 28 ≤ i := by omega
  · exact getElem_eq_of_extractLsb'_eq hoperand (Nat.zero_le i) (by omega) hi
  · exact hbit24
  · exact getElem_eq_of_extractLsb'_eq hphase hfrom (by omega) hi
  · exact getElem_eq_of_extractLsb'_eq huop hfrom (by omega) hi

/-- With bit 24 zero, the three fields are the whole word (30_encoding R74). -/
theorem microWord_of_fields {w : Word} {uop : BitVec 4} (hbit24 : w[24] = false)
    (huop : (uopField w).toNat = uop.toNat) :
    microWord uop (Fsm.ofCode (phaseField w)) (operandField w) = w :=
  word_eq_of_fields_eq (by simpa using (BitVec.eq_of_toNat_eq huop).symm) (by simp)
    ((bit24_microWord ..).trans hbit24.symm) (by simp)

/-- PIN and LEVEL are the whole operand of a SETPIN whose other bits are zero. -/
theorem setpinOperand_of_fields {x : BitVec 24} (hhigh : x.extractLsb' 5 19 = 0) (hmid : x.extractLsb' 1 3 = 0) :
    setpinOperand (OutPin.ofCode x[4]) x[0] = x := by
  obtain ⟨hhigh', hmid'⟩ := setpinOperand_zeros (OutPin.ofCode x[4]) x[0]
  ext i hi
  obtain rfl | ⟨hfrom, hin⟩ | rfl | hfrom : i = 0 ∨ (1 ≤ i ∧ i < 4) ∨ i = 4 ∨ 5 ≤ i := by omega
  · simp
  · exact getElem_eq_of_extractLsb'_eq (hmid'.trans hmid.symm) hfrom (by omega) hi
  · simp
  · exact getElem_eq_of_extractLsb'_eq (hhigh'.trans hhigh.symm) hfrom (by omega) hi

theorem xfercOperand_of_fields (x : BitVec 24) : xfercOperand (x.extractLsb' 16 8) (x.extractLsb' 0 16) = x := by
  ext i hi
  obtain hin | hfrom := Nat.lt_or_ge i 16
  · exact getElem_eq_of_extractLsb'_eq (count_xfercOperand _ _) (Nat.zero_le i) (by omega) hi
  · exact getElem_eq_of_extractLsb'_eq (fill_xfercOperand _ _) hfrom (by omega) hi

/-- CODE is the whole operand of an END whose other bits are zero. -/
theorem endOperand_of_fields {x : BitVec 24} (hhigh : x.extractLsb' 3 21 = 0) :
    (x.extractLsb' 0 3).setWidth 24 = x := by
  ext i hi
  obtain hin | hfrom := Nat.lt_or_ge i 3
  · exact getElem_eq_of_extractLsb'_eq (code_field _) (Nat.zero_le i) (by omega) hi
  · exact getElem_eq_of_extractLsb'_eq ((code_zeros _).trans hhigh.symm) hfrom (by omega) hi

/-! ### What decodes is the encoding -/

theorem encode_of_decodeSetpin {phase : Fsm} {operand : BitVec 24} {i : Instr}
    (h : decodeSetpin phase operand = .ok i) :
    encode i = microWord 0x1#4 phase operand ∧ i.wellFormed = true := by
  obtain rfl := decodeSetpin_ok h
  unfold decodeSetpin at h
  split at h
  · next hzero => exact ⟨congrArg (microWord 0x1#4 phase) (setpinOperand_of_fields hzero.1 hzero.2), rfl⟩
  · cases h

theorem encode_of_decodeXferc {phase : Fsm} {operand : BitVec 24} {i : Instr}
    (h : decodeXferc phase operand = .ok i) :
    encode i = microWord 0x3#4 phase operand ∧ i.wellFormed = true := by
  obtain rfl := decodeXferc_ok h
  unfold decodeXferc at h
  split at h
  · cases h
  · next hcount =>
    exact ⟨congrArg (microWord 0x3#4 phase) (xfercOperand_of_fields operand), by simpa [Instr.wellFormed] using hcount⟩

/-- For XFERI and POLL, which encode with the operand 0. -/
theorem encode_of_decodeNoOperand {uop : BitVec 4} {phase : Fsm} {operand : BitVec 24} {i j : Instr}
    (hencode : encode j = microWord uop phase 0#24) (hwf : j.wellFormed = true)
    (h : decodeNoOperand j operand = .ok i) : encode i = microWord uop phase operand ∧ i.wellFormed = true := by
  obtain rfl := decodeNoOperand_ok h
  unfold decodeNoOperand at h
  split at h
  · next hzero => exact ⟨hzero ▸ hencode, hwf⟩
  · cases h

theorem encode_of_decodeEnd {phase : Fsm} {operand : BitVec 24} {i : Instr} (h : decodeEnd phase operand = .ok i) :
    encode i = microWord 0x6#4 phase operand ∧ i.wellFormed = true := by
  unfold decodeEnd at h
  split at h
  · next hzero =>
    split at h
    · next code hcode =>
      obtain rfl := Except.ok.inj h
      have hoperand : code.code.setWidth 24 = operand := by
        rw [SessionOutcome.code_of_ofCode? hcode, endOperand_of_fields hzero]
      exact ⟨congrArg (microWord 0x6#4 phase) hoperand, rfl⟩
    · cases h
  · cases h

/-- A micro-word that decodes has bit 24 zero, and each UOP's operand is the one its instruction encodes to. -/
theorem encode_of_decodeMicro {w : Word} {i : Instr} (h : decodeMicro w = .ok i) :
    encode i = w ∧ i.wellFormed = true := by
  unfold decodeMicro at h
  split at h
  · cases h
  · next hclear =>
    have hword {uop : BitVec 4} := microWord_of_fields (uop := uop) (Bool.eq_false_iff.mpr hclear)
    split at h
    · next huop =>
      rw [← hword (uop := 0x1#4) huop]
      exact encode_of_decodeSetpin h
    · next huop =>
      obtain rfl := Except.ok.inj h
      exact ⟨hword (uop := 0x2#4) huop, rfl⟩
    · next huop =>
      rw [← hword (uop := 0x3#4) huop]
      exact encode_of_decodeXferc h
    · next huop =>
      rw [← hword (uop := 0x4#4) huop]
      exact encode_of_decodeNoOperand rfl rfl h
    · next huop =>
      rw [← hword (uop := 0x5#4) huop]
      exact encode_of_decodeNoOperand rfl rfl h
    · next huop =>
      rw [← hword (uop := 0x6#4) huop]
      exact encode_of_decodeEnd h
    · cases h

/-- Settles O2: a word of either format. -/
theorem encodeOfDecodeIsTheWord : Obligations.EncodeOfDecodeIsTheWord := by
  unfold Obligations.EncodeOfDecodeIsTheWord
  intro w i h
  unfold decodeWord at h
  split at h
  · next j hcommand =>
    obtain rfl := Except.ok.inj h
    obtain ⟨rfl, rfl⟩ | ⟨rfl, rfl⟩ := Machine.decodeCommand_ok_cases hcommand
    · exact ⟨rfl, rfl⟩
    · exact ⟨rfl, rfl⟩
  · exact encode_of_decodeMicro h

end Sys2Proof
end

section
/-! PROOFS. The encoding family, the illegal micro-words (30_encoding R78): the decoder rejects exactly the words that
the rule lists, and a turn of a running block faults exactly on a word that the decoder rejects. -/

namespace Sys2Proof

/-! ### The fields of a word as numbers -/

theorem uopField_toNat (w : Word) : (uopField w).toNat = w.toNat / 2 ^ 28 % 16 := by
  simp [uopField, Nat.shiftRight_eq_div_pow]

theorem operandField_toNat (w : Word) : (operandField w).toNat = w.toNat % 2 ^ 24 := by
  simp [operandField]

theorem bit24_eq_true_iff (w : Word) : w[24] = true ↔ w.toNat / 2 ^ 24 % 2 = 1 := by
  simp [BitVec.getElem_eq_testBit_toNat, Nat.testBit_eq_decide_div_mod_eq]

/-- A field is zero exactly if it is so as a number. -/
theorem extractLsb'_eq_zero_iff {n : Nat} (x : BitVec n) (start len : Nat) :
    x.extractLsb' start len = 0 ↔ x.toNat / 2 ^ start % 2 ^ len = 0 := by
  simp [← BitVec.toNat_inj, Nat.shiftRight_eq_div_pow]

/-- The codes that name no outcome are 5 to 7 (60_exceptions R200). -/
theorem SessionOutcome.ofCode?_eq_none_iff (c : BitVec 3) : SessionOutcome.ofCode? c = none ↔ 5 ≤ c.toNat := by
  revert c; decide

/-! ### What each form of operand rejects (30_encoding R76, R78) -/

theorem decodeSetpin_error_iff (phase : Fsm) (operand : BitVec 24) :
    (∃ e, decodeSetpin phase operand = .error e) ↔ operand.toNat / 2 ^ 5 ≠ 0 ∨ operand.toNat / 2 % 8 ≠ 0 := by
  have hzeros : (operand.extractLsb' 5 19 = 0 ∧ operand.extractLsb' 1 3 = 0) ↔
      operand.toNat / 2 ^ 5 = 0 ∧ operand.toNat / 2 % 8 = 0 := by
    rw [extractLsb'_eq_zero_iff, extractLsb'_eq_zero_iff]
    omega
  unfold decodeSetpin
  split
  · next h =>
    obtain ⟨hhigh, hmid⟩ := hzeros.mp h
    exact iff_of_false nofun (by omega)
  · next h => exact iff_of_true ⟨_, rfl⟩ (not_and_or.mp (mt hzeros.mpr h))

theorem decodeXferc_error_iff (phase : Fsm) (operand : BitVec 24) :
    (∃ e, decodeXferc phase operand = .error e) ↔ operand.toNat % 2 ^ 16 = 0 := by
  have hcount : operand.extractLsb' 0 16 = 0 ↔ operand.toNat % 2 ^ 16 = 0 := by
    rw [extractLsb'_eq_zero_iff]
    omega
  unfold decodeXferc
  split
  · next h => exact iff_of_true ⟨_, rfl⟩ (hcount.mp h)
  · next h => exact iff_of_false nofun (mt hcount.mpr h)

theorem decodeNoOperand_error_iff (i : Instr) (operand : BitVec 24) :
    (∃ e, decodeNoOperand i operand = .error e) ↔ operand.toNat ≠ 0 := by
  have hzero : operand = 0 ↔ operand.toNat = 0 := by simp [← BitVec.toNat_inj]
  unfold decodeNoOperand
  split
  · next h => exact iff_of_false nofun (not_not.mpr (hzero.mp h))
  · next h => exact iff_of_true ⟨_, rfl⟩ (mt hzero.mpr h)

theorem decodeEnd_error_iff (phase : Fsm) (operand : BitVec 24) :
    (∃ e, decodeEnd phase operand = .error e) ↔ operand.toNat / 2 ^ 3 ≠ 0 ∨ 5 ≤ operand.toNat % 8 := by
  have hzeros : operand.extractLsb' 3 21 = 0 ↔ operand.toNat / 2 ^ 3 = 0 := by
    rw [extractLsb'_eq_zero_iff]
    omega
  have hcode : SessionOutcome.ofCode? (operand.extractLsb' 0 3) = none ↔ 5 ≤ operand.toNat % 8 := by
    simp [SessionOutcome.ofCode?_eq_none_iff]
  unfold decodeEnd
  split
  · next h =>
    rw [hzeros.mp h, ← hcode]
    split
    · next code hsome => simp [hsome]
    · next hnone => simp [hnone]
  · next h => exact iff_of_true ⟨_, rfl⟩ (.inl (mt hzeros.mpr h))

end Sys2Proof

namespace Sys2Proof.Machine

/-- The decoder of R80 rejects exactly the words that R78 lists. -/
theorem decodeMicro_error_iff (w : Word) : (∃ e, decodeMicro w = .error e) ↔ IllegalMicroWord w.toNat := by
  have hbit24 := bit24_eq_true_iff w
  unfold decodeMicro IllegalMicroWord
  rw [← uopField_toNat, ← operandField_toNat, ← hbit24]
  split
  · next hset => simp [hset]
  · next hclear =>
    split
    · next huop => simp [decodeSetpin_error_iff, huop, hclear]
    · next huop => simp [huop, hclear]
    · next huop => simp [decodeXferc_error_iff, huop, hclear]
    · next huop => simp [decodeNoOperand_error_iff, huop, hclear]
    · next huop => simp [decodeNoOperand_error_iff, huop, hclear]
    · next huop => simp [decodeEnd_error_iff, huop, hclear]
    · have hreserved : (uopField w).toNat = 0 ∨ 7 ≤ (uopField w).toNat := by grind
      exact iff_of_true ⟨_, rfl⟩ (or_assoc.mp (.inl hreserved))

/-! ### The sequencer's step -/

/-- An instruction that was decoded is well-formed, and so its meaning is no fault. -/
theorem sequencerStep_fault_iff (s : State) :
    sequencerStep s = .fault (.illegalMicroOp s.upc s.fetch) ↔ ∃ e, decodeMicro s.fetch = .error e := by
  unfold sequencerStep
  split
  · next i hdecode =>
    obtain ⟨-, hwf⟩ := encode_of_decodeMicro hdecode
    obtain ⟨t, hnext⟩ := exec_next_of_wellFormed hwf s
    simp [hnext, hdecode]
  · next e hdecode => simp [hdecode]

theorem step_of_blockHasTurn {s : State} (h : BlockHasTurn s) : step s = blockTurn s.popInput := by
  obtain hinputs | ⟨rest, hinputs⟩ := h
  · simp only [step, hinputs]
  · simp only [step, hinputs]

/-- Settles O3: taking the turn leaves the word at UPC and RUN as they are. -/
theorem illegalMicroWordsFaultAndNoOthers : Obligations.IllegalMicroWordsFaultAndNoOthers := by
  unfold Obligations.IllegalMicroWordsFaultAndNoOthers
  intro s hrun hturn
  have hstep : step s = sequencerStep s.popInput := by
    simp [step_of_blockHasTurn hturn, blockTurn, hrun]
  rw [hstep, ← decodeMicro_error_iff]
  exact sequencerStep_fault_iff s.popInput

end Sys2Proof.Machine
end

section
/-! PROOFS. The host command family, bring-up: what INIT does on each of its three paths (40_host_commands R102, R103), and
that no step but a block reset leaves a failed bring-up (R104). -/

namespace Sys2Proof.Machine

/-! ### INIT (40_host_commands R102) -/

theorem exec_init_of_unbound {s : State} (hlife : s.life = .unbound) : exec .init s = .next (bringUp s) := by
  have heq := execInit_eq s
  rwa [if_pos hlife] at heq

/-- After the first INIT, another one does nothing, whatever the first one's end (40_host_commands R103, R104). -/
theorem exec_init_of_bound {s : State} (hlife : s.life ≠ .unbound) : exec .init s = .next s := by
  have heq := execInit_eq s
  rwa [if_neg hlife] at heq

/-- Settles O6: the Transport's answer decides between the two ends of a bring-up. -/
theorem initCompletesWithItsEffect : Obligations.InitCompletesWithItsEffect := by
  unfold Obligations.InitCompletesWithItsEffect
  refine fun s => ⟨exec_init_of_bound, fun hlife hanswer => ?_, fun hlife hanswer => ?_⟩
  · rw [exec_init_of_unbound hlife]
    obtain ⟨-, heq⟩ | ⟨hdenied, -⟩ := bringUp_cases s
    · simp [heq]
    · exact absurd (hdenied.symm.trans hanswer) Bool.false_ne_true
  · rw [exec_init_of_unbound hlife]
    obtain ⟨hgranted, -⟩ | ⟨-, heq⟩ := bringUp_cases s
    · exact absurd (hanswer.symm.trans hgranted) Bool.false_ne_true
    · simp [heq]

/-! ### LIFE after bring-up (40_host_commands R104) -/

/-- INIT is the only writer of LIFE, and it writes LIFE once (10_state R22). -/
theorem exec_keeps_life_of_bound {i : Instr} {s t : State} (hlife : s.life ≠ .unbound) (h : exec i s = .next t) :
    t.life = s.life := by
  by_cases hinit : i = .init
  · subst hinit
    obtain rfl := Host.Outcome.next.inj ((exec_init_of_bound hlife).symm.trans h)
    rfl
  · obtain ⟨hkept, -⟩ := exec_keeps_bringUp h hinit
    exact hkept

theorem hostAccess_keeps_life_of_bound {a : HostAccess} {s t : State} (hlife : s.life ≠ .unbound)
    (h : hostAccess a s = .next t) : t.life = s.life := by
  obtain ⟨width, address, -, rfl⟩ | ⟨width, address, value, -, hwrite⟩ := hostAccess_next_cases h
  · rfl
  · obtain rfl | ⟨-, hstore⟩ := hostWrite_next_cases hwrite
    · rfl
    · obtain ⟨-, -, rfl⟩ | ⟨-, -, rfl⟩ | ⟨-, -, rfl⟩ | ⟨-, -, i, -, hexec⟩ := hstore
      · rfl
      · rfl
      · rfl
      · exact exec_keeps_life_of_bound hlife hexec

theorem blockTurn_keeps_life_of_bound {s t : State} (hlife : s.life ≠ .unbound) (h : blockTurn s = .next t) :
    t.life = s.life := by
  obtain ⟨-, rfl⟩ | ⟨-, i, -, hexec⟩ := blockTurn_next_cases h
  · rfl
  · exact exec_keeps_life_of_bound hlife hexec

/-- Once INIT has run, a block reset is the only step that changes LIFE. -/
theorem step_keeps_life_of_bound {s t : State} (hlife : s.life ≠ .unbound) (hreset : ¬ ResetPending s)
    (h : step s = .next t) : t.life = s.life := by
  obtain ⟨a, rest, -, haccess⟩ | ⟨rest, hinputs, -⟩ | ⟨-, hturn⟩ := step_next_cases h
  · exact hostAccess_keeps_life_of_bound (s := s.popInput) hlife haccess
  · exact absurd ⟨rest, hinputs⟩ hreset
  · exact blockTurn_keeps_life_of_bound (s := s.popInput) hlife hturn

/-- Settles O7: a failed bring-up is one that INIT has run, so INIT is idle and LIFE stays. -/
theorem failedBringUpIsLeftOnlyByBlockReset : Obligations.FailedBringUpIsLeftOnlyByBlockReset := by
  unfold Obligations.FailedBringUpIsLeftOnlyByBlockReset
  intro s hfailed
  have hbound : s.life ≠ .unbound := by simp [hfailed]
  exact ⟨exec_init_of_bound hbound, fun t hreset hstep => (step_keeps_life_of_bound hbound hreset hstep).trans hfailed⟩

end Sys2Proof.Machine
end

section
/-! PROOFS. The host command family, the session start: what CONFIGURE does with each length (40_host_commands R107 to
R110), and that nothing of an earlier session enters it (R111). -/

namespace Sys2Proof.Machine

/-! ### CONFIGURE by LIFE (40_host_commands R107) -/

theorem exec_configure_of_ready {s : State} (hlife : s.life = .ready) :
    exec .configure s = .next (validateInput (beginSession s)) :=
  congrArg Host.Outcome.next (if_pos hlife)

theorem exec_configure_of_not_ready {s : State} (hlife : s.life ≠ .ready) : exec .configure s = .next s :=
  congrArg Host.Outcome.next (if_neg hlife)

/-! ### The checks by length (40_host_commands R108 to R110) -/

theorem validateInput_of_empty {s : State} (hlen : s.lenIn.toNat = 0) :
    validateInput s = rejectInput .emptyInput s := by
  obtain ⟨-, heq⟩ | ⟨hover, -⟩ | ⟨hlow, -, -⟩ := validateInput_cases s
  · exact heq
  · omega
  · omega

theorem validateInput_of_oversized {s : State} (hlen : 65535 < s.lenIn.toNat) :
    validateInput s = rejectInput .oversizedInput s := by
  obtain ⟨hzero, -⟩ | ⟨-, heq⟩ | ⟨-, hhigh, -⟩ := validateInput_cases s
  · omega
  · exact heq
  · omega

theorem validateInput_of_legal {s : State} (hlow : 1 ≤ s.lenIn.toNat) (hhigh : s.lenIn.toNat ≤ 65535) :
    validateInput s = acceptInput s := by
  obtain ⟨hzero, -⟩ | ⟨hover, -⟩ | ⟨-, -, heq⟩ := validateInput_cases s
  · omega
  · omega
  · exact heq

/-- Settles O8: the session start, then the outcome of the checks at this length. -/
theorem configureCompletesWithItsEffect : Obligations.ConfigureCompletesWithItsEffect := by
  unfold Obligations.ConfigureCompletesWithItsEffect
  refine fun s => ⟨exec_configure_of_not_ready, fun hlife hlen => ?_, fun hlife hlen => ?_,
    fun hlife hlow hhigh => ?_⟩
  · rw [exec_configure_of_ready hlife, validateInput_of_empty (s := beginSession s) hlen, rejectInput_eq]
    rfl
  · rw [exec_configure_of_ready hlife, validateInput_of_oversized (s := beginSession s) hlen, rejectInput_eq]
    rfl
  · rw [exec_configure_of_ready hlife, validateInput_of_legal (s := beginSession s) hlow hhigh, BitVec.ofNat_toNat]
    rfl

/-! ### Earlier sessions (40_host_commands R111) -/

/-- Settles O9: LEN_IN alone selects the branch, and each branch writes constants or LEN_IN itself. -/
theorem configureForgetsEarlierSessions : Obligations.ConfigureForgetsEarlierSessions := by
  unfold Obligations.ConfigureForgetsEarlierSessions
  intro s s' t t' hlife hlife' hrun hlen hexec hexec'
  obtain rfl := Host.Outcome.next.inj ((exec_configure_of_ready hlife).symm.trans hexec)
  obtain rfl := Host.Outcome.next.inj ((exec_configure_of_ready hlife').symm.trans hexec')
  have hlen : (beginSession s).lenIn = (beginSession s').lenIn := hlen
  have hrejected {p : Prop} : s.run = true → s.run = false → p := fun hrunning hstopped =>
    absurd (hstopped.symm.trans hrunning) Bool.false_ne_true
  obtain ⟨hzero, heq⟩ | ⟨hover, heq⟩ | ⟨hlow, hhigh, heq⟩ := validateInput_cases (beginSession s)
  · rw [heq, validateInput_of_empty (hlen ▸ hzero)]
    exact ⟨rfl, hrun, rfl, rfl, rfl, rfl, rfl, rfl, hrejected, _, rfl, rfl⟩
  · rw [heq, validateInput_of_oversized (hlen ▸ hover)]
    exact ⟨rfl, hrun, rfl, rfl, rfl, rfl, rfl, rfl, hrejected, _, rfl, rfl⟩
  · rw [heq, validateInput_of_legal (hlen ▸ hlow) (hlen ▸ hhigh)]
    exact ⟨rfl, rfl, congrArg (BitVec.setWidth 16) hlen, rfl, rfl, rfl, rfl, rfl, fun _ _ => rfl, [],
      (List.append_nil _).symm, (List.append_nil _).symm⟩

end Sys2Proof.Machine
end

section
/-! PROOFS. The host command family, the step: a command word written to CMD runs (40_host_commands R100), as does a word
placed for the next fetch (log entry 6), and LEN_IN and POLL_BUDGET take a write (R112, R113). -/

namespace Sys2Proof.Machine

/-! ### Writes that are taken (20_memory R51) -/

/-- With RUN = 0 an aligned word write below the image window reaches its register (20_memory R53). -/
theorem hostWrite_register {address : BitVec 17} (value : Word) {s : State} (hrun : s.run = false)
    (hlow : address.toNat < 0x10000) (haligned : address.toNat % 4 = 0) :
    hostWrite .w32 address value s = writeRegister address value s := by
  simp [hostWrite, hrun, inImageWindow_eq_false hlow, (registerAccess_iff .w32 address).mpr ⟨rfl, haligned⟩]

theorem writeCommand_of_decode {c : Word} {i : Instr} (h : decodeCommand c = .ok i) (s : State) :
    writeCommand c s = exec i s := by
  simp [writeCommand, h]

/-- Settles O20: the access is a write to CMD, and the word is a command's. -/
theorem stepRunsTheCommandWritten : Obligations.StepRunsTheCommandWritten := by
  unfold Obligations.StepRunsTheCommandWritten
  intro s c i rest hrun hinputs hdecode
  calc step s
    _ = hostWrite .w32 0#17 c { s with inputs := rest } := step_of_write hinputs
    _ = writeCommand c { s with inputs := rest } := hostWrite_register c hrun (by decide) (by decide)
    _ = exec i { s with inputs := rest } := writeCommand_of_decode hdecode _

theorem hostWrite_lenIn (value : Word) (s : State) :
    hostWrite .w32 0x00008#17 value s = .next (if s.run then s else { s with lenIn := value }) := by
  by_cases hrun : s.run = true
  · rw [hostWrite_of_run _ _ _ hrun, if_pos hrun]
  · rw [hostWrite_register value (by simpa using hrun) (by decide) (by decide), if_neg hrun]
    rfl

theorem hostWrite_pollBudget (value : Word) (s : State) :
    hostWrite .w32 0x00018#17 value s =
      .next (if s.run then s else { s with pollBudget := BitVec.ofNat 16 (value.toNat % 65536) }) := by
  have hlowHalf : BitVec.ofNat 16 (value.toNat % 65536) = value.setWidth 16 := BitVec.eq_of_toNat_eq (by simp)
  by_cases hrun : s.run = true
  · rw [hostWrite_of_run _ _ _ hrun, if_pos hrun]
  · rw [hostWrite_register value (by simpa using hrun) (by decide) (by decide), if_neg hrun, hlowHalf]
    rfl

theorem readValue_lenIn (s : State) : s.readValue .w32 0x00008#17 = s.lenIn := by
  obtain ⟨-, -, hread, -⟩ := registerReadsReturnTheMap s
  exact hread

theorem readValue_pollBudget_toNat (s : State) : (s.readValue .w32 0x00018#17).toNat = s.pollBudget.toNat := by
  obtain ⟨-, -, -, -, -, -, hread, -⟩ := registerReadsReturnTheMap s
  exact hread

/-- Settles O32: the step is the register's write, and LEN_IN is read as it stands. -/
theorem lenInWriteStoresTheWord : Obligations.LenInWriteStoresTheWord := by
  unfold Obligations.LenInWriteStoresTheWord
  intro s value rest hinputs
  have hstep := (step_of_write hinputs).trans (hostWrite_lenIn value _)
  refine ⟨_, hstep, rfl, ?_⟩
  rw [readValue_lenIn]
  exact apply_ite State.lenIn ..

/-- Settles O33: the step is the register's write, and POLL_BUDGET is read zero-extended. -/
theorem pollBudgetWriteStoresTheLowHalf : Obligations.PollBudgetWriteStoresTheLowHalf := by
  unfold Obligations.PollBudgetWriteStoresTheLowHalf
  intro s value rest hinputs
  have hstep := (step_of_write hinputs).trans (hostWrite_pollBudget value _)
  refine ⟨_, hstep, rfl, ?_⟩
  rw [readValue_pollBudget_toNat]
  split
  · rfl
  · simp

/-! ### Words placed for the next fetch (log entry 6) -/

theorem decodeTableWord_some {nbits w : Nat} {i : Instr} (h : decodeTableWord nbits w = some i) :
    decodeWord (tableWord nbits w) = .ok i := by
  unfold decodeTableWord at h
  split at h
  · next j hdecode => exact hdecode.trans (congrArg Except.ok (Option.some.inj h))
  · cases h

/-- A legal word is a command's, or it is no command's and a micro-operation's (log entry 20). -/
theorem decodeWord_ok_cases {w : Word} {i : Instr} (h : decodeWord w = .ok i) :
    decodeCommand w = .ok i ∨ (∃ e, decodeCommand w = .error e) ∧ decodeMicro w = .ok i := by
  unfold decodeWord at h
  split at h
  · next j hcommand => exact .inl (hcommand.trans h)
  · next e hcommand => exact .inr ⟨⟨e, hcommand⟩, h⟩

theorem withFetchWord_of_command {nbits w : Nat} {i : Instr} (h : decodeCommand (tableWord nbits w) = .ok i)
    (s : State) :
    s.withFetchWord nbits w =
      { s with run := false, inputs := .access (.write .w32 0#17 (tableWord nbits w)) :: s.inputs } := by
  simp only [State.withFetchWord, h]
  rfl

theorem withFetchWord_of_no_command {nbits w : Nat} {e : DecodeError}
    (h : decodeCommand (tableWord nbits w) = .error e) (s : State) :
    s.withFetchWord nbits w =
      { s with
        run := true, rom := s.rom.set s.upc.toNat (tableWord nbits w), inputs := .blockTurn :: s.inputs } := by
  simp only [State.withFetchWord, h]

/-- The word that is placed in the ROM stands where UPC fetches it. -/
theorem fetch_withFetchWord {nbits w : Nat} {e : DecodeError} (h : decodeCommand (tableWord nbits w) = .error e)
    (s : State) : (s.withFetchWord nbits w).popInput.fetch = tableWord nbits w := by
  rw [withFetchWord_of_no_command h]
  exact Vector.getElem_set_self _

/-- Settles O22: a command word is the host's next access, and any other legal word is in the ROM at UPC. -/
theorem placedWordRunsNext : Obligations.PlacedWordRunsNext := by
  unfold Obligations.PlacedWordRunsNext
  intro s w i hplaced
  obtain hcommand | ⟨⟨e, hcommand⟩, hmicro⟩ := decodeWord_ok_cases (decodeTableWord_some hplaced)
  · rw [withFetchWord_of_command hcommand]
    exact stepRunsTheCommandWritten _ _ _ _ rfl rfl hcommand
  · have hfetch := fetch_withFetchWord hcommand s
    have hturn : BlockHasTurn (s.withFetchWord 32 w) := .inr ⟨s.inputs, by rw [withFetchWord_of_no_command hcommand]⟩
    have hrun : (s.withFetchWord 32 w).popInput.run = true := by rw [withFetchWord_of_no_command hcommand]; rfl
    rw [step_of_blockHasTurn hturn]
    exact blockTurn_of_decode hrun (hfetch.symm ▸ hmicro)

end Sys2Proof.Machine
end

section
/-! PROOFS. The sequencer family, the micro-operations and the step: what SETPIN, DELAY, XFERC and END do (41_sequencer
R122 to R127, 42_framer R141, 43_poller R166), and what a turn of the block does by RUN (41_sequencer R121). -/

namespace Sys2Proof.Machine

/-! ### The micro-operations -/

/-- Settles O10: a latch each; the operation's writes, one after the other, are the record update. -/
theorem setpinCompletesWithItsEffect : Obligations.SetpinCompletesWithItsEffect := by
  unfold Obligations.SetpinCompletesWithItsEffect
  intro phase level s
  exact ⟨rfl, rfl⟩

/-- Settles O11: the PHASE write and the event, then the advance. -/
theorem delayCompletesWithItsEffect : Obligations.DelayCompletesWithItsEffect := by
  unfold Obligations.DelayCompletesWithItsEffect
  intro phase t s
  exact congrArg Host.Outcome.next (State.advance_eq _)

/-- Settles O15: the end of a session, after the PHASE write. -/
theorem endCompletesWithItsEffect : Obligations.EndCompletesWithItsEffect := by
  unfold Obligations.EndCompletesWithItsEffect
  intro phase code s
  exact congrArg Host.Outcome.next (finishSession_eq code (s.setFsm phase))

/-- Settles O12: the exchange after the PHASE write, by the Transport's answer; FAIL_PHASE takes the phase just written. -/
theorem xfercCompletesWithItsEffect : Obligations.XfercCompletesWithItsEffect := by
  unfold Obligations.XfercCompletesWithItsEffect
  intro phase fill count s hcount
  have hne : count ≠ 0#16 := by
    rintro rfl
    exact absurd hcount (by decide)
  have hexec : exec (.xferc phase fill count) s = .next (sendFill fill count (s.setFsm phase)) :=
    execXferc_of_count_ne_zero phase fill hne s
  have hanswer : (s.setFsm phase).xferAnswer = s.xferAnswer := rfl
  obtain ⟨hok, heq⟩ | ⟨hfailed, heq⟩ := sendFill_cases fill count (s.setFsm phase)
  · rw [hexec, heq]
    exact ⟨fun _ => rfl, fun h => absurd (h.symm.trans (hanswer.symm.trans hok)) Bool.false_ne_true⟩
  · rw [hexec, heq]
    exact ⟨fun h => absurd (hfailed.symm.trans (hanswer.trans h)) Bool.false_ne_true, fun _ => rfl⟩

/-! ### The block's turn by RUN -/

/-- Settles O19: taking the turn leaves RUN and the word at UPC as they are. -/
theorem stepRunsTheMicroWordAtUpc : Obligations.StepRunsTheMicroWordAtUpc := by
  unfold Obligations.StepRunsTheMicroWordAtUpc
  intro s i hrun hturn hdecode
  calc step s
    _ = blockTurn s.popInput := step_of_blockHasTurn hturn
    _ = exec i s.popInput := blockTurn_of_decode (s := s.popInput) hrun hdecode

/-- Settles O21: the turn is taken, and the idle block leaves the rest as it was. -/
theorem idleBlockKeepsItsState : Obligations.IdleBlockKeepsItsState := by
  unfold Obligations.IdleBlockKeepsItsState
  intro s hrun hturn
  calc step s
    _ = blockTurn s.popInput := step_of_blockHasTurn hturn
    _ = .next s.popInput := blockTurn_of_idle (s := s.popInput) hrun

end Sys2Proof.Machine
end

section
/-! PROOFS. The sequencer family, the ROM: its words as numbers (41_sequencer R120, 30_encoding R74, R76), and that no
step writes it (20_memory R66). -/

namespace Sys2Proof

/-! ### Micro-words as numbers (30_encoding R74, R76) -/

theorem phaseField_toNat (w : Word) : (phaseField w).toNat = w.toNat / 2 ^ 25 % 8 := by
  simp [phaseField, Nat.shiftRight_eq_div_pow]

/-- The fields are the digits of the word. -/
theorem microWord_eq_ofNat (uop : BitVec 4) (phase : Fsm) (operand : BitVec 24) :
    microWord uop phase operand =
      BitVec.ofNat 32 (uop.toNat * 2 ^ 28 + phase.code.toNat * 2 ^ 25 + operand.toNat) := by
  have huop := uopField_toNat (microWord uop phase operand)
  have hphase := phaseField_toNat (microWord uop phase operand)
  have hoperand := operandField_toNat (microWord uop phase operand)
  have hbit24 := bit24_eq_true_iff (microWord uop phase operand)
  simp only [uopField_microWord, phaseField_microWord, operandField_microWord, bit24_microWord, Bool.false_eq_true,
    false_iff] at huop hphase hoperand hbit24
  have hword := (microWord uop phase operand).isLt
  refine BitVec.eq_of_toNat_eq ?_
  rw [BitVec.toNat_ofNat]
  omega

/-- FILL and COUNT are the digits of XFERC's operand. -/
theorem xfercOperand_toNat (fill : Byte) (count : BitVec 16) :
    (xfercOperand fill count).toNat = fill.toNat * 65536 + count.toNat := by
  have hfill := congrArg BitVec.toNat (fill_xfercOperand fill count)
  have hcount := congrArg BitVec.toNat (count_xfercOperand fill count)
  simp only [BitVec.extractLsb'_toNat, Nat.shiftRight_eq_div_pow] at hfill hcount
  have hoperand := (xfercOperand fill count).isLt
  omega

theorem encode_delay_resetting (t : BitVec 24) :
    encode (.delay .resetting t) = BitVec.ofNat 32 (0x22000000 + t.toNat) :=
  microWord_eq_ofNat 0x2#4 .resetting t

theorem encode_xferc_flushing (fill : Byte) (count : BitVec 16) :
    encode (.xferc .flushing fill count) = BitVec.ofNat 32 (0x38000000 + fill.toNat * 65536 + count.toNat) := by
  rw [Nat.add_assoc, ← xfercOperand_toNat]
  exact microWord_eq_ofNat 0x3#4 .flushing (xfercOperand fill count)

end Sys2Proof

namespace Sys2Proof.Machine

/-- The program is assembled word by word; three words carry parameters (41_sequencer R120). -/
theorem romOf_eq (p : Params) : romOf p =
    #v[0x12000000#32, 0x12000010#32, BitVec.ofNat 32 (0x22000000 + p.tResetUs.toNat), 0x12000011#32,
       BitVec.ofNat 32 (0x22000000 + p.tReinitUs.toNat), 0x12000001#32, 0x34000001#32, 0x16000000#32,
       0x46000000#32, 0x18000001#32,
       BitVec.ofNat 32 (0x38000000 + p.flushFill.toNat * 65536 + p.flushBytes.toNat), 0x5A000000#32,
       0x6C000000#32, 0x1E000001#32, 0x6E000003#32, 0x6E000004#32] := by
  rw [← encode_delay_resetting, ← encode_delay_resetting, ← encode_xferc_flushing]
  rfl

/-! ### No step writes the ROM -/

theorem hostAccess_keeps_rom {a : HostAccess} {s t : State} (h : hostAccess a s = .next t) :
    t.rom = s.rom ∧ t.params = s.params := by
  obtain ⟨width, address, -, rfl⟩ | ⟨width, address, value, -, hwrite⟩ := hostAccess_next_cases h
  · exact ⟨rfl, rfl⟩
  · obtain rfl | ⟨-, ⟨-, -, rfl⟩ | ⟨-, -, rfl⟩ | ⟨-, -, rfl⟩ | ⟨-, -, i, -, hexec⟩⟩ := hostWrite_next_cases hwrite
    · exact ⟨rfl, rfl⟩
    · exact ⟨rfl, rfl⟩
    · exact ⟨rfl, rfl⟩
    · exact ⟨rfl, rfl⟩
    · exact ⟨(exec_keeps_hostSide hexec).rom, (exec_keeps_hostSide hexec).params⟩

theorem blockTurn_keeps_rom {s t : State} (h : blockTurn s = .next t) : t.rom = s.rom ∧ t.params = s.params := by
  obtain ⟨-, rfl⟩ | ⟨-, i, -, hexec⟩ := blockTurn_next_cases h
  · exact ⟨rfl, rfl⟩
  · exact ⟨(exec_keeps_hostSide hexec).rom, (exec_keeps_hostSide hexec).params⟩

/-- Settles O5: the words as numbers, and the three kinds of step. -/
theorem romHoldsTheProgramAndIsNeverWritten : Obligations.RomHoldsTheProgramAndIsNeverWritten := by
  unfold Obligations.RomHoldsTheProgramAndIsNeverWritten
  refine ⟨romOf_eq, fun s t hstep => ?_⟩
  obtain ⟨access, rest, -, haccess⟩ | ⟨rest, -, rfl⟩ | ⟨-, hturn⟩ := step_next_cases hstep
  · exact hostAccess_keeps_rom (s := s.popInput) haccess
  · exact ⟨rfl, rfl⟩
  · exact blockTurn_keeps_rom (s := s.popInput) hturn

end Sys2Proof.Machine
end

section
/-! PROOFS. The sequencer family, the protocol machine: each micro-word writes its phase to FSM (41_sequencer R122), and at
each address of the fixed ROM that phase is FSM's own or the end of an edge from it (R124). -/

namespace Sys2Proof

/-- The PHASE field of a micro-operation; a host command has none (30_encoding R74). -/
def Instr.phase? : Instr → Option Fsm
  | .init => none
  | .configure => none
  | .setpin phase _ _ => some phase
  | .delay phase _ => some phase
  | .xferc phase _ _ => some phase
  | .xferi phase => some phase
  | .poll phase => some phase
  | .endOp phase _ => some phase

end Sys2Proof

namespace Sys2Proof.Machine

/-- Every micro-operation leaves its phase in FSM (41_sequencer R122). -/
theorem exec_writes_phase {i : Instr} {phase : Fsm} {s t : State} (h : exec i s = .next t)
    (hphase : i.phase? = some phase) : t.fsm = phase := by
  cases i with
  | init => cases hphase
  | configure => cases hphase
  | setpin f pin level =>
    obtain rfl := Option.some.inj hphase
    obtain rfl := Host.Outcome.next.inj h
    simp [State.advance_eq]
  | delay f d =>
    obtain rfl := Option.some.inj hphase
    obtain rfl := Host.Outcome.next.inj h
    rfl
  | xferc f fill count =>
    obtain rfl := Option.some.inj hphase
    obtain rfl := exec_xferc_next h
    obtain ⟨-, heq⟩ | ⟨-, heq⟩ := sendFill_cases fill count (s.setFsm f)
    all_goals rw [heq]; rfl
  | xferi f =>
    obtain rfl := Option.some.inj hphase
    obtain rfl := Host.Outcome.next.inj h
    obtain ⟨-, -, heq⟩ | ⟨-, -, heq⟩ | ⟨-, heq⟩ := sendChunk_cases (s.setFsm f)
    all_goals rw [heq]; rfl
  | poll f =>
    obtain rfl := Option.some.inj hphase
    obtain rfl := Host.Outcome.next.inj h
    obtain ⟨-, heq⟩ | ⟨-, -, heq⟩ | ⟨-, -, -, heq⟩ | ⟨-, -, -, heq⟩ := pollOnce_cases (s.setFsm f)
    all_goals rw [heq]; rfl
  | endOp f code =>
    obtain rfl := Option.some.inj hphase
    obtain rfl := Host.Outcome.next.inj h
    rfl

/-- The cases are the addresses of 41_sequencer R120, in order; address 13 is entered from each of the three phases that
make an exchange, and address 11 from the flush as well as from itself. -/
theorem phaseEdge_of_place {s : State} (hplace : Place s) :
    ∃ phase, (romProgram s.params)[s.upc.toNat].phase? = some phase ∧ PhaseEdge s.fsm phase := by
  obtain ⟨k, hk, hupc⟩ : ∃ k : Nat, s.upc.toNat = k ∧ s.upc = BitVec.ofNat 4 k := ⟨_, rfl, by simp⟩
  have hlt : k < 16 := hk ▸ s.upc.isLt
  have hplace := hplace.at_upc hupc
  simp only [hk]
  interval_cases k
  · obtain ⟨-, hfsm, -⟩ := hplace
    exact ⟨_, rfl, .inl hfsm⟩
  · obtain ⟨-, hfsm, -⟩ := hplace
    exact ⟨_, rfl, .inl hfsm⟩
  · obtain ⟨-, hfsm, -⟩ := hplace
    exact ⟨_, rfl, .inl hfsm⟩
  · obtain ⟨-, hfsm, -⟩ := hplace
    exact ⟨_, rfl, .inl hfsm⟩
  · obtain ⟨-, hfsm, -⟩ := hplace
    exact ⟨_, rfl, .inl hfsm⟩
  · obtain ⟨-, hfsm, -⟩ := hplace
    exact ⟨_, rfl, .inl hfsm⟩
  · obtain ⟨-, hfsm : s.fsm = .resetting, -⟩ := hplace
    exact ⟨_, rfl, hfsm ▸ .inr (by decide)⟩
  · obtain ⟨-, hfsm : s.fsm = .priming, -⟩ := hplace
    exact ⟨_, rfl, hfsm ▸ .inr (by decide)⟩
  · obtain ⟨-, hfsm, -⟩ := hplace
    exact ⟨_, rfl, .inl hfsm⟩
  · obtain ⟨-, hfsm : s.fsm = .streaming, -⟩ := hplace
    exact ⟨_, rfl, hfsm ▸ .inr (by decide)⟩
  · obtain ⟨-, hfsm, -⟩ := hplace
    exact ⟨_, rfl, .inl hfsm⟩
  · obtain ⟨-, -, ⟨hfsm : s.fsm = .flushing, -⟩ | ⟨hfsm, -⟩⟩ := hplace
    · exact ⟨_, rfl, hfsm ▸ .inr (by decide)⟩
    · exact ⟨_, rfl, .inl hfsm⟩
  · obtain ⟨-, hfsm : s.fsm = .awaitingCompletion, -⟩ := hplace
    exact ⟨_, rfl, hfsm ▸ .inr (by decide)⟩
  · obtain ⟨-, hfsm : s.fsm = s.failPhase, hexchange, -⟩ := hplace
    obtain hfail | hfail | hfail := hexchange
    all_goals
      have hfail := hfsm.trans hfail
      exact ⟨_, rfl, hfail ▸ .inr (by decide)⟩
  · obtain ⟨-, hfsm, -⟩ := hplace
    exact ⟨_, rfl, .inl hfsm⟩
  · obtain ⟨-, hfsm : s.fsm = .awaitingCompletion, -⟩ := hplace
    exact ⟨_, rfl, hfsm ▸ .inr (by decide)⟩

/-- Settles O44: a host access leaves FSM alone, and the block's turn runs the word of the ROM at UPC. -/
theorem phasesFollowTheProtocol : Obligations.PhasesFollowTheProtocol := by
  unfold Obligations.PhasesFollowTheProtocol
  intro s t hinv hrun hreset hstep
  obtain heq | ⟨hturn, -⟩ := step_next_cases_of_run hrun hreset hstep
  · rw [heq]
    exact .inl rfl
  · obtain ⟨phase, hphase, hedge⟩ := phaseEdge_of_place (hinv.running hrun).place
    have hexec : exec (romProgram s.params)[s.upc.toNat] s.popInput = .next t :=
      (blockTurn_rom (s := s.popInput) hrun hinv.rom).symm.trans ((step_of_blockHasTurn hturn).symm.trans hstep)
    exact exec_writes_phase hexec hphase ▸ hedge

end Sys2Proof.Machine
end

section
/-! PROOFS. The sequencer family, a block left to itself: it runs the words of the fixed ROM one after the other
(41_sequencer R121), and a run of it always goes on (60_exceptions R206). -/

namespace Sys2Proof.Machine

/-- A state that meets the invariant, with no host access or reset pending. -/
structure LeftToItself (s : State) : Prop where
  inv : Inv s
  inputs : s.inputs = []

theorem LeftToItself.of_begins {s : State} (hinv : Inv s) (hbegins : SessionBegins s) : LeftToItself s :=
  have ⟨_, _, hinputs⟩ := hbegins
  ⟨hinv, hinputs⟩

theorem LeftToItself.next {s t : State} (h : LeftToItself s) (hstep : step s = .next t) : LeftToItself t :=
  ⟨everyStepKeepsTheInvariant s t h.inv hstep, (step_keeps_frame h.inputs hstep).inputs.trans h.inputs⟩

theorem LeftToItself.step_rom {s : State} (h : LeftToItself s) (hrun : s.run = true) :
    step s = exec (romProgram s.params)[s.upc.toNat] s :=
  (step_of_no_inputs h.inputs).trans (blockTurn_rom hrun h.inv.rom)

theorem LeftToItself.exists_runsTo {s : State} (h : LeftToItself s) (n : Nat) : ∃ t, RunsTo n s t := by
  induction n generalizing s with
  | zero => exact ⟨s, rfl⟩
  | succ n ih =>
    obtain ⟨u, hu⟩ := noFaultUnderTheInvariant s h.inv
    obtain ⟨t, ht⟩ := ih (h.next hu)
    exact ⟨t, u, hu, ht⟩

end Sys2Proof.Machine
end

section
/-! PROOFS. The sequencer family, the Resetting sequence: the words at addresses 0 to 5 pass in order (41_sequencer R128),
and what their events say in time (70_reset_and_hazards R240, R241). -/

namespace Sys2Proof.Machine

/-! ### The first six steps -/

/-- The Resetting words drive a pin or delay; none of them can fail (41_sequencer R120, R123). -/
theorem exec_resetting_passes {p : Params} {k : Nat} (hk : k < 6) {s t : State}
    (h : exec (romProgram p)[k] s = .next t) : ∃ e, Passes s t e := by
  interval_cases k
  · exact ⟨_, exec_setpin_passes h⟩
  · exact ⟨_, exec_setpin_passes h⟩
  · exact ⟨_, exec_delay_passes h⟩
  · exact ⟨_, exec_setpin_passes h⟩
  · exact ⟨_, exec_delay_passes h⟩
  · exact ⟨_, exec_setpin_passes h⟩

/-- Up to address 6 each step of a running session goes to the next address. -/
theorem upc_of_runsTo_resetting {n k : Nat} {s t : State} (h : LeftToItself s) (hrun : s.run = true)
    (hupc : s.upc = BitVec.ofNat 4 k) (hle : k + n ≤ 6) (hruns : RunsTo n s t) :
    t.run = true ∧ t.upc = BitVec.ofNat 4 (k + n) := by
  induction n generalizing s k with
  | zero =>
    obtain rfl : t = s := hruns
    exact ⟨hrun, hupc⟩
  | succ n ih =>
    obtain ⟨u, hu, hrest⟩ := hruns
    have hat : s.upc.toNat = k := by
      rw [hupc, BitVec.toNat_ofNat]
      omega
    have hexec := (h.step_rom hrun).symm.trans hu
    simp only [hat] at hexec
    obtain ⟨e, hpasses⟩ := exec_resetting_passes (by omega) hexec
    have hnext : u.upc = BitVec.ofNat 4 (k + 1) := by
      rw [hpasses.upc, hupc, BitVec.ofNat_add]
    obtain ⟨hrun', hupc'⟩ := ih (h.next hu) (hpasses.run.trans hrun) hnext (by omega) hrest
    exact ⟨hrun', by rw [hupc', Nat.add_right_comm, Nat.add_assoc]⟩

/-- Six steps after it began a session stands before the priming exchange, and has emitted the Resetting events. -/
theorem resetting_sequence {s t : State} (hinv : Inv s) (hbegins : SessionBegins s) (hruns : RunsTo 6 s t) :
    t.run = true ∧ t.upc = 6#4 ∧ Emitted s t (resetEvents s.params) := by
  have ⟨hrun, hupc, _⟩ := hbegins
  obtain ⟨hrun', hupc'⟩ := upc_of_runsTo_resetting (k := 0) (.of_begins hinv hbegins) hrun hupc (by decide) hruns
  obtain ⟨chunks, -, hemitted⟩ := (SessionSoFar.of_runsTo hinv hbegins hruns).forward_at hrun' hupc' (by decide)
  exact ⟨hrun', hupc', hemitted⟩

/-- Settles O46: six steps can be taken, and they are the Resetting sequence. -/
theorem sessionsBeginWithTheResettingSequence : Obligations.SessionsBeginWithTheResettingSequence := by
  unfold Obligations.SessionsBeginWithTheResettingSequence
  intro s hinv hbegins
  obtain ⟨t, hruns⟩ := (LeftToItself.of_begins hinv hbegins).exists_runsTo 6
  exact ⟨t, hruns, resetting_sequence hinv hbegins hruns⟩

/-! ### The reset pulse in time -/

theorem Emitted.unique {s t : State} {events events' : List Event} (h : Emitted s t events)
    (h' : Emitted s t events') : events = events' :=
  List.append_cancel_left (h.symm.trans h')

theorem TimingOk.tail {tick busHz : Nat} {a : Stamped} {rest : List Stamped} (h : TimingOk tick busHz (a :: rest)) :
    TimingOk tick busHz rest := by
  obtain ⟨-, -, -, hrest⟩ := h
  exact hrest

/-- A Delay or a Wait holds the event after it back by its bound (70_reset_and_hazards R241). -/
theorem TimingOk.hold {tick busHz : Nat} {a b c : Stamped} {rest : List Stamped}
    (h : TimingOk tick busHz (a :: b :: c :: rest)) : a.stop + holdUs b.event * tick ≤ c.start := by
  obtain ⟨-, -, ⟨-, hhold⟩, -⟩ := h
  exact hhold

/-- A hold is at least as long as the least one its parameter may be set to (00_scope R7). -/
theorem least_hold_le {least hold tick stop start : Nat} (hleast : least ≤ hold) (h : stop + hold * tick ≤ start) :
    least * tick ≤ start - stop := by
  have hscaled : least * tick ≤ hold * tick := Nat.mul_le_mul_right tick hleast
  omega

/-- Settles O53: the events are the Resetting sequence, whose two delays stand between the pin writes. -/
theorem resetPulseMeetsItsTimes : Obligations.ResetPulseMeetsItsTimes := by
  unfold Obligations.ResetPulseMeetsItsTimes
  intro s t timed tick events hinv hbegins hruns hemitted hevents htiming
  obtain ⟨-, -, hreset⟩ := resetting_sequence hinv hbegins hruns
  rw [hemitted.unique hreset] at hevents
  simp only [resetEvents, List.map_eq_cons_iff, List.map_eq_nil_iff] at hevents
  obtain ⟨a0, _, rfl, -, low, _, rfl, hlow, d1, _, rfl, hd1, high, _, rfl, hhigh, d2, _, rfl, hd2, release, _, rfl,
    hrelease, rfl⟩ := hevents
  obtain ⟨-, -, hleastReset, hleastReinit, -⟩ := Params.bounds s.params
  have hpulse := htiming.tail.hold
  have hreinit := htiming.tail.tail.tail.hold
  rw [hd1] at hpulse
  rw [hd2] at hreinit
  exact ⟨a0, low, d1, high, d2, release, rfl, hlow, hhigh, hrelease, hpulse, least_hold_le hleastReset hpulse, hreinit,
    least_hold_le hleastReinit hreinit⟩

end Sys2Proof.Machine
end

section
/-! PROOFS. The sequencer family, termination: a measure of the words a session has still to run, which every step of a
running session left to itself makes smaller (41_sequencer R131). A failed exchange or an exhausted budget leads closer to
the END than the forward path does, so the measure bounds those sessions too. -/

namespace Sys2Proof.Machine

/-! ### The measure -/

/-- The number of chunks still to be sent (42_framer R144). -/
def chunksLeft (s : State) : Nat :=
  (s.frameLen.toNat - s.offset.toNat + s.params.chunk.toNat - 1) / s.params.chunk.toNat

/-- The most steps to the END from an address of the program (41_sequencer R120, R131). -/
def stepsFrom (s : State) : Nat → Nat
  | 9 => 3 + max s.pollBudget.toNat 1
  | 10 => 2 + max s.pollBudget.toNat 1
  | 11 => 1 + max (s.pollBudget.toNat - s.polls.toNat) 1
  | 12 => 1
  | 13 => 2
  | 14 => 1
  | 15 => 1
  | address => (8 - address) + chunksLeft s + 3 + max s.pollBudget.toNat 1

/-- The most steps a session has still to take; none after its END. -/
def stepsLeft (s : State) : Nat :=
  if s.run then stepsFrom s s.upc.toNat else 0

theorem stepsLeft_of_run {s : State} {k : Nat} (hrun : s.run = true) (hupc : s.upc.toNat = k) :
    stepsLeft s = stepsFrom s k := by
  simp [stepsLeft, hrun, hupc]

theorem stepsLeft_of_stopped {s : State} (hrun : s.run = false) : stepsLeft s = 0 := by
  simp [stepsLeft, hrun]

theorem stepsLeft_lt_of_goes {s t : State} {j k : Nat} (hrun : s.run = true) (hupc : s.upc.toNat = k)
    (hrun' : t.run = true) (hupc' : t.upc.toNat = j) (hlt : stepsFrom t j < stepsFrom s k) :
    stepsLeft t < stepsLeft s := by
  rwa [stepsLeft_of_run hrun hupc, stepsLeft_of_run hrun' hupc']

/-- Every word but the two that are repeated is followed by a smaller measure. -/
theorem stepsFrom_succ_lt (s : State) {k : Nat} (hk : k ∈ [0, 1, 2, 3, 4, 5, 6, 7, 9, 10, 13]) :
    stepsFrom s (k + 1) < stepsFrom s k := by
  fin_cases hk
  all_goals
    simp only [stepsFrom]
    omega

/-- The failure entry is closer to its END than any exchange is to its own. -/
theorem stepsFrom_failed_exchange_lt (s : State) {k : Nat} (hk : k ∈ [6, 8, 10]) : 2 < stepsFrom s k := by
  fin_cases hk
  all_goals
    simp only [stepsFrom]
    omega

/-- What the measure looks at: the parameters, POLL_BUDGET, FRAME_LEN, OFFSET and POLLS. -/
theorem stepsFrom_congr {s t : State} (hkept : HostSideKept s t) (hframe : t.frameLen = s.frameLen)
    (hoffset : t.offset = s.offset) (hpolls : t.polls = s.polls) (k : Nat) : stepsFrom t k = stepsFrom s k := by
  have hchunks : chunksLeft t = chunksLeft s := by
    rw [chunksLeft, chunksLeft, hkept.params, hframe, hoffset]
  unfold stepsFrom
  rw [hchunks, hkept.pollBudget, hpolls]

/-! ### Chunks (42_framer R143) -/

theorem chunksLeft_pos {s : State} (hbefore : s.offset.toNat < s.frameLen.toNat) : 1 ≤ chunksLeft s := by
  obtain ⟨hchunk, -⟩ := Params.bounds s.params
  exact Nat.div_pos (by omega) hchunk

/-- Taking min(C, n) off n > 0 takes one off ceil(n / C). -/
theorem ceilDiv_sub_min_lt {n c : Nat} (hc : 1 ≤ c) (hn : 1 ≤ n) :
    (n - min c n + c - 1) / c < (n + c - 1) / c := by
  have hmore : (n + c - 1) / c = (n - 1) / c + 1 := by
    rw [← Nat.add_div_right _ hc]
    congr 1
    omega
  obtain hlast | hfull := Nat.lt_or_ge n c
  · have hnone : (n - min c n + c - 1) / c = 0 := Nat.div_eq_of_lt (by omega)
    rw [hnone, hmore]
    exact Nat.succ_pos _
  · have hless : n - min c n + c - 1 = n - 1 := by omega
    rw [hless, hmore]
    exact Nat.lt_succ_self _

/-- A chunk that was sent is one less to send. -/
theorem chunksLeft_lt_of_sent {s t : State} (hbefore : s.offset.toNat < s.frameLen.toNat) (hparams : t.params = s.params)
    (hframe : t.frameLen = s.frameLen) (hoffset : t.offset = s.offset + s.chunkLength) :
    chunksLeft t < chunksLeft s := by
  obtain ⟨hchunk, -⟩ := Params.bounds s.params
  have hsent : t.frameLen.toNat - t.offset.toNat =
      s.frameLen.toNat - s.offset.toNat - min s.params.chunk.toNat (s.frameLen.toNat - s.offset.toNat) := by
    rw [hframe, hoffset, offset_add_chunkLength_toNat hbefore.le, chunkLength_toNat hbefore.le, Nat.sub_add_eq]
  rw [chunksLeft, chunksLeft, hsent, hparams]
  exact ceilDiv_sub_min_lt hchunk (by omega)

/-! ### Each word of the program makes the measure smaller -/

section
variable {s t : State} (hrun : s.run = true)
include hrun

theorem stepsLeft_lt_of_passes {i : Instr} {e : Event} {k : Nat} (hupc : s.upc.toNat = k)
    (hexec : exec i s = .next t) (hconfigure : i ≠ .configure) (hpasses : Passes s t e)
    (hk : k ∈ [0, 1, 2, 3, 4, 5, 6, 7, 9, 10, 13]) : stepsLeft t < stepsLeft s := by
  have hlast : k < 14 := by
    fin_cases hk
    all_goals decide
  have hnext : t.upc.toNat = k + 1 := by
    rw [hpasses.upc, BitVec.toNat_add, hupc, BitVec.toNat_ofNat]
    omega
  refine stepsLeft_lt_of_goes hrun hupc (hpasses.run.trans hrun) hnext ?_
  rw [stepsFrom_congr (exec_keeps_hostSide hexec) (exec_keeps_frameLen hexec hconfigure) hpasses.offset hpasses.polls]
  exact stepsFrom_succ_lt s hk

/-- An exchange of constant bytes: on to the next address, or to the failure entry. -/
theorem stepsLeft_lt_of_xferc {phase : Fsm} {fill : Byte} {count : BitVec 16} {k : Nat} (hupc : s.upc.toNat = k)
    (hexec : exec (.xferc phase fill count) s = .next t) (hk : k = 6 ∨ k = 10) : stepsLeft t < stepsLeft s := by
  obtain hpasses | ⟨hfailed, hrun'⟩ := exec_xferc_passes hexec
  · refine stepsLeft_lt_of_passes hrun hupc hexec nofun hpasses ?_
    obtain rfl | rfl := hk
    all_goals decide
  · refine stepsLeft_lt_of_goes hrun hupc (hrun'.trans hrun) (congrArg BitVec.toNat hfailed) ?_
    refine stepsFrom_failed_exchange_lt s ?_
    obtain rfl | rfl := hk
    all_goals decide

/-- XFERI: a chunk less to send, on to the flush, or to the failure entry. -/
theorem stepsLeft_lt_of_xferi (hinv : Inv s) (hupc : s.upc = 8#4) (hexec : exec (.xferi .streaming) s = .next t) :
    stepsLeft t < stepsLeft s := by
  obtain ⟨-, -, -, -, hbefore⟩ := (hinv.running hrun).place.at_upc hupc
  have hbefore : s.offset.toNat < s.frameLen.toNat := hbefore
  have hleft := chunksLeft_pos hbefore
  have hat : s.upc.toNat = 8 := congrArg BitVec.toNat hupc
  obtain rfl := Host.Outcome.next.inj hexec
  obtain ⟨-, -, heq⟩ | ⟨-, -, heq⟩ | ⟨-, heq⟩ := sendChunk_cases (s.setFsm .streaming)
  · rw [heq]
    refine stepsLeft_lt_of_goes (j := 9) hrun hat hrun (by simp [hupc]) ?_
    simp only [stepsFrom, State.setFsm_pollBudget]
    omega
  · rw [heq]
    refine stepsLeft_lt_of_goes (j := 8) hrun hat hrun hat ?_
    refine Nat.add_lt_add_right (Nat.add_lt_add_right (Nat.add_lt_add_left ?_ _) _) _
    exact chunksLeft_lt_of_sent hbefore rfl rfl rfl
  · rw [heq]
    exact stepsLeft_lt_of_goes (j := 13) hrun hat hrun rfl (stepsFrom_failed_exchange_lt s (by decide))

/-- POLL: a sample less to take, or on to one of the ENDs. -/
theorem stepsLeft_lt_of_poll (hupc : s.upc = 11#4) (hexec : exec (.poll .awaitingCompletion) s = .next t) :
    stepsLeft t < stepsLeft s := by
  have hat : s.upc.toNat = 11 := congrArg BitVec.toNat hupc
  have hend : 1 < stepsFrom s 11 := by
    simp only [stepsFrom]
    omega
  obtain rfl := Host.Outcome.next.inj hexec
  obtain ⟨-, heq⟩ | ⟨-, -, heq⟩ | ⟨-, -, -, heq⟩ | ⟨hleft, -, hmore, heq⟩ :=
    pollOnce_cases (s.setFsm .awaitingCompletion)
  · rw [heq]
    exact stepsLeft_lt_of_goes (j := 15) hrun hat hrun rfl hend
  · rw [heq]
    exact stepsLeft_lt_of_goes (j := 12) hrun hat hrun (by simp [hupc]) hend
  · rw [heq]
    exact stepsLeft_lt_of_goes (j := 15) hrun hat hrun rfl hend
  · rw [heq]
    refine stepsLeft_lt_of_goes (j := 11) hrun hat hrun hat ?_
    have hcounted := polls_add_one_toNat (s := s) hleft
    have hleft : s.polls.toNat < s.pollBudget.toNat := hleft
    have hmore : (s.polls + 1#16).toNat ≠ s.pollBudget.toNat := mt BitVec.eq_of_toNat_eq hmore
    simp only [stepsFrom, State.setFsm_pollBudget, State.setFsm_polls]
    omega

/-- END: no step is left. -/
theorem stepsLeft_lt_of_end {phase : Fsm} {code : SessionOutcome} {k : Nat} (hupc : s.upc.toNat = k)
    (hexec : exec (.endOp phase code) s = .next t) (hk : k = 12 ∨ k = 14 ∨ k = 15) : stepsLeft t < stepsLeft s := by
  obtain rfl := Host.Outcome.next.inj hexec
  rw [stepsLeft_of_run hrun hupc, stepsLeft_of_stopped rfl]
  obtain rfl | rfl | rfl := hk
  all_goals exact Nat.zero_lt_one

end

/-- The cases are the addresses of 41_sequencer R120, in order. -/
theorem stepsLeft_lt_of_exec_rom {s t : State} (hinv : Inv s) (hrun : s.run = true)
    (hexec : exec (romProgram s.params)[s.upc.toNat] s = .next t) : stepsLeft t < stepsLeft s := by
  obtain ⟨k, hk, hupc⟩ : ∃ k : Nat, s.upc.toNat = k ∧ s.upc = BitVec.ofNat 4 k := ⟨_, rfl, by simp⟩
  have hlt : k < 16 := hk ▸ s.upc.isLt
  simp only [hk] at hexec
  interval_cases k
  · exact stepsLeft_lt_of_passes hrun hk hexec nofun (exec_setpin_passes hexec) (by decide)
  · exact stepsLeft_lt_of_passes hrun hk hexec nofun (exec_setpin_passes hexec) (by decide)
  · exact stepsLeft_lt_of_passes hrun hk hexec nofun (exec_delay_passes hexec) (by decide)
  · exact stepsLeft_lt_of_passes hrun hk hexec nofun (exec_setpin_passes hexec) (by decide)
  · exact stepsLeft_lt_of_passes hrun hk hexec nofun (exec_delay_passes hexec) (by decide)
  · exact stepsLeft_lt_of_passes hrun hk hexec nofun (exec_setpin_passes hexec) (by decide)
  · exact stepsLeft_lt_of_xferc hrun hk hexec (.inl rfl)
  · exact stepsLeft_lt_of_passes hrun hk hexec nofun (exec_setpin_passes hexec) (by decide)
  · exact stepsLeft_lt_of_xferi hrun hinv hupc hexec
  · exact stepsLeft_lt_of_passes hrun hk hexec nofun (exec_setpin_passes hexec) (by decide)
  · exact stepsLeft_lt_of_xferc hrun hk hexec (.inr rfl)
  · exact stepsLeft_lt_of_poll hrun hupc hexec
  · exact stepsLeft_lt_of_end hrun hk hexec (.inl rfl)
  · exact stepsLeft_lt_of_passes hrun hk hexec nofun (exec_setpin_passes hexec) (by decide)
  · exact stepsLeft_lt_of_end hrun hk hexec (.inr (.inl rfl))
  · exact stepsLeft_lt_of_end hrun hk hexec (.inr (.inr rfl))

/-! ### Whole sessions -/

/-- Of the micro-operations END alone clears RUN, and it leaves a report (43_poller R166). -/
theorem exec_reports_of_stopped {i : Instr} {s t : State} (hexec : exec i s = .next t) (hconfigure : i ≠ .configure)
    (hrun : s.run = true) (hstopped : t.run = false) : t.outcomeValid = true := by
  by_cases hend : ∃ phase code, i = .endOp phase code
  · obtain ⟨phase, code, rfl⟩ := hend
    obtain rfl := Host.Outcome.next.inj hexec
    rfl
  · obtain ⟨hkept, -, -⟩ := exec_keeps_session hexec hconfigure fun phase code h => hend ⟨phase, code, h⟩
    exact absurd (hstopped.symm.trans (hkept.trans hrun)) Bool.false_ne_true

theorem romProgram_ne_configure (p : Params) {k : Nat} (hk : k < 16) : (romProgram p)[k] ≠ .configure :=
  (decodeMicro_ne_command (decodeMicro_romOf p k hk)).2

theorem LeftToItself.exists_step_stepsLeft_lt {s : State} (h : LeftToItself s) (hrun : s.run = true) :
    ∃ u, step s = .next u ∧ stepsLeft u < stepsLeft s := by
  obtain ⟨u, hu⟩ := noFaultUnderTheInvariant s h.inv
  exact ⟨u, hu, stepsLeft_lt_of_exec_rom h.inv hrun ((h.step_rom hrun).symm.trans hu)⟩

/-- A running session left to itself comes to its END within the measure. -/
theorem LeftToItself.exists_end {s : State} {bound : Nat} (h : LeftToItself s) (hrun : s.run = true)
    (hbound : stepsLeft s ≤ bound) :
    ∃ n t, RunsTo n s t ∧ t.run = false ∧ t.outcomeValid = true ∧ n ≤ bound := by
  induction bound generalizing s with
  | zero =>
    obtain ⟨u, -, hless⟩ := h.exists_step_stepsLeft_lt hrun
    omega
  | succ bound ih =>
    obtain ⟨u, hu, hless⟩ := h.exists_step_stepsLeft_lt hrun
    cases hrun' : u.run with
    | false =>
      have hvalid := exec_reports_of_stopped ((h.step_rom hrun).symm.trans hu) (romProgram_ne_configure _ _) hrun hrun'
      exact ⟨1, u, ⟨u, hu, rfl⟩, hrun', hvalid, Nat.le_add_left 1 bound⟩
    | true =>
      obtain ⟨n, t, hruns, hstopped, hvalid, hn⟩ := ih (h.next hu) hrun' (by omega)
      exact ⟨n + 1, t, ⟨u, hu, hruns⟩, hstopped, hvalid, Nat.succ_le_succ hn⟩

/-- At the start of a session the measure is the bound of R131. -/
theorem stepsLeft_of_begins {s : State} (hinv : Inv s) (hbegins : SessionBegins s) : stepsLeft s = sessionBound s := by
  obtain ⟨hrun, hupc, -⟩ := hbegins
  obtain ⟨-, -, hoffset, -⟩ := (hinv.running hrun).place.at_upc hupc
  have hoffset : s.offset = 0#16 := hoffset
  have hchunks : chunksLeft s = chunkCount s := by simp [chunksLeft, chunkCount, hoffset]
  rw [stepsLeft_of_run (k := 0) hrun (congrArg BitVec.toNat hupc)]
  simp only [stepsFrom, sessionBound, hchunks]
  omega

/-- Settles O47: the session ends within the measure, which is R131's bound for every outcome; the step that the statement
allows a failed session besides is not needed. -/
theorem sessionsEndWithinTheBound : Obligations.SessionsEndWithinTheBound := by
  unfold Obligations.SessionsEndWithinTheBound
  intro s hinv hbegins
  have ⟨hrun, _, _⟩ := hbegins
  obtain ⟨n, t, hruns, hstopped, hvalid, hn⟩ :=
    (LeftToItself.of_begins hinv hbegins).exists_end hrun (stepsLeft_of_begins hinv hbegins).le
  exact ⟨n, t, hruns, hstopped, hvalid, fun _ => Nat.le_succ_of_le hn, fun _ => hn⟩

end Sys2Proof.Machine
end

section
/-! PROOFS. The framer family: what XFERI does with the next chunk (42_framer R143), and what a session that fails on one
has done (R146): the chunks before it were all of P_CHUNK bytes, and only the release of CS_N and Finish follow it. -/

namespace Sys2Proof.Machine

/-! ### The next chunk (42_framer R143) -/

/-- The image bytes of the chunk that starts at an offset of the frame. -/
def chunkAt (s : State) (offset : Nat) : List Byte :=
  imageSlice s offset (offset + min s.params.chunk.toNat (s.frameLen.toNat - offset))

theorem chunkBytes_eq_chunkAt {s : State} (h : s.offset.toNat ≤ s.frameLen.toNat) :
    s.chunkBytes = chunkAt s s.offset.toNat := by
  rw [chunkBytes_eq_imageSlice, chunkLength_toNat h, chunkAt]

theorem FrameKept.chunkAt_eq {s t : State} (h : FrameKept s t) (offset : Nat) :
    chunkAt t offset = chunkAt s offset := by
  rw [chunkAt, chunkAt, h.params, h.frameLen, imageSlice_congr h.imgRead]

/-- Settles O13: the three ways an exchange of the next chunk goes, with OFFSET and the chunk length as numbers. -/
theorem xferiCompletesWithItsEffect : Obligations.XferiCompletesWithItsEffect := by
  unfold Obligations.XferiCompletesWithItsEffect
  intro phase s hbefore k tx
  have hanswer : (s.setFsm phase).xferAnswer = s.xferAnswer := rfl
  have hbytes : (s.setFsm phase).chunkBytes = tx := chunkBytes_eq_chunkAt hbefore.le
  have hnumber : (s.offset + s.chunkLength).toNat = s.offset.toNat + k := by
    rw [offset_add_chunkLength_toNat hbefore.le, chunkLength_toNat hbefore.le]
  have hoffset : s.offset + s.chunkLength = BitVec.ofNat 16 (s.offset.toNat + k) := by
    rw [← hnumber, BitVec.ofNat_toNat, BitVec.setWidth_eq]
  have hsent : s.offset + s.chunkLength = s.frameLen ↔ s.offset.toNat + k = s.frameLen.toNat := by
    rw [← hnumber, BitVec.toNat_inj]
  have hexec : exec (.xferi phase) s = .next (sendChunk (s.setFsm phase)) := rfl
  obtain ⟨hok, hlast, heq⟩ | ⟨hok, hmore, heq⟩ | ⟨hfailed, heq⟩ := sendChunk_cases (s.setFsm phase)
  · refine ⟨fun _ => ?_, fun h => absurd (h.symm.trans (hanswer.symm.trans hok)) Bool.false_ne_true⟩
    rw [hexec, heq, hbytes, if_pos (hsent.mp hlast), ← hoffset]
    rfl
  · refine ⟨fun _ => ?_, fun h => absurd (h.symm.trans (hanswer.symm.trans hok)) Bool.false_ne_true⟩
    rw [hexec, heq, hbytes, if_neg (mt hsent.mpr hmore), ← hoffset]
    rfl
  · refine ⟨fun h => absurd (hfailed.symm.trans (hanswer.trans h)) Bool.false_ne_true, fun _ => ?_⟩
    rw [hexec, heq, hbytes]
    rfl

/-! ### The chunks before the end of the frame -/

theorem busBytes_length_le {c : Nat} {chunks : List Event}
    (hsizes : ∀ e ∈ chunks, ∃ tx, e = .xfer tx true ∧ tx.length ≤ c) :
    (busBytes chunks).length ≤ chunks.length * c := by
  induction chunks with
  | nil => exact Nat.zero_le _
  | cons e rest ih =>
    obtain ⟨⟨tx, rfl, hle⟩, hrest⟩ := List.forall_mem_cons.mp hsizes
    have hbound := ih hrest
    simp only [busBytes, List.length_append, List.length_cons, Nat.succ_mul]
    omega

/-- Exchanges of at most `c` bytes each that have sent `c` bytes for each of them were all of `c` bytes. -/
theorem sizes_eq_of_busBytes_length {c : Nat} {chunks : List Event}
    (hsizes : ∀ e ∈ chunks, ∃ tx, e = .xfer tx true ∧ tx.length ≤ c)
    (hfull : chunks.length * c ≤ (busBytes chunks).length) :
    ∀ e ∈ chunks, ∃ tx, e = .xfer tx true ∧ tx.length = c := by
  induction chunks with
  | nil => nofun
  | cons e rest ih =>
    obtain ⟨⟨tx, rfl, hle⟩, hrest⟩ := List.forall_mem_cons.mp hsizes
    have hbound := busBytes_length_le hrest
    simp only [busBytes, List.length_append, List.length_cons, Nat.succ_mul] at hfull
    exact List.forall_mem_cons.mpr ⟨⟨tx, rfl, by omega⟩, ih hrest (by omega)⟩

theorem ChunksSent.offset_eq_mul {s : State} {chunks : List Event} {offset : Nat} (h : ChunksSent s chunks offset)
    (hbefore : offset < s.frameLen.toNat) : offset = chunks.length * s.params.chunk.toNat := by
  have hoffset := h.offset_eq
  omega

/-- Before the end of the frame every chunk is of P_CHUNK bytes (42_framer R144). -/
theorem ChunksSent.sizes_eq {s : State} {chunks : List Event} {offset : Nat} (h : ChunksSent s chunks offset)
    (hbefore : offset < s.frameLen.toNat) :
    ∀ e ∈ chunks, ∃ tx, e = .xfer tx true ∧ tx.length = s.params.chunk.toNat := by
  refine sizes_eq_of_busBytes_length (fun e he => ?_) ?_
  · obtain ⟨tx, heq, -, hle⟩ := h.sizes e he
    exact ⟨tx, heq, hle⟩
  · rw [h.bytes, imageSlice_length, Nat.sub_zero]
    exact (h.offset_eq_mul hbefore).ge

/-- The chunks sent and the one after them are the image up to the end of that one. -/
theorem ChunksSent.busBytes_append_chunkAt {s : State} {chunks : List Event} {offset : Nat}
    (h : ChunksSent s chunks offset) (hbefore : offset < s.frameLen.toNat) :
    busBytes chunks ++ chunkAt s offset =
      imageSlice s 0 (min ((chunks.length + 1) * s.params.chunk.toNat) s.frameLen.toNat) := by
  have hend : offset + min s.params.chunk.toNat (s.frameLen.toNat - offset) =
      min ((chunks.length + 1) * s.params.chunk.toNat) s.frameLen.toNat := by
    have hoffset := h.offset_eq_mul hbefore
    rw [Nat.succ_mul]
    omega
  rw [h.bytes, chunkAt, ← imageSlice_append, hend]

/-! ### The writers of FAIL_PHASE in the fixed ROM -/

theorem exec_keeps_failPhase {i : Instr} {s t : State} (h : exec i s = .next t) (hconfigure : i ≠ .configure)
    (hxferc : ∀ phase fill count, i ≠ .xferc phase fill count) (hxferi : ∀ phase, i ≠ .xferi phase)
    (hpoll : ∀ phase, i ≠ .poll phase) : t.failPhase = s.failPhase := by
  obtain ⟨-, -, -, -, -, -, -, -, hkept, -⟩ := registersHaveOnlyTheirWriters i s t h
  exact hkept hconfigure hxferc hxferi hpoll

/-- What a micro-operation writes to FAIL_PHASE is its own phase (60_exceptions R203, 43_poller R160). -/
theorem exec_failPhase_cases {i : Instr} {s t : State} (h : exec i s = .next t) (hconfigure : i ≠ .configure) :
    t.failPhase = s.failPhase ∨ (∃ fill count, i = .xferc t.failPhase fill count) ∨ i = .xferi t.failPhase ∨
      i = .poll t.failPhase := by
  cases i with
  | xferc phase fill count =>
    obtain rfl := exec_xferc_next h
    obtain ⟨-, heq⟩ | ⟨-, heq⟩ := sendFill_cases fill count (s.setFsm phase)
    · exact .inl (heq ▸ rfl)
    · exact .inr (.inl ⟨fill, count, heq ▸ rfl⟩)
  | xferi phase =>
    obtain rfl := Host.Outcome.next.inj h
    obtain ⟨-, -, heq⟩ | ⟨-, -, heq⟩ | ⟨-, heq⟩ := sendChunk_cases (s.setFsm phase)
    · exact .inl (heq ▸ rfl)
    · exact .inl (heq ▸ rfl)
    · exact .inr (.inr (.inl (heq ▸ rfl)))
  | poll phase =>
    obtain rfl := Host.Outcome.next.inj h
    obtain ⟨-, heq⟩ | ⟨-, -, heq⟩ | ⟨-, -, -, heq⟩ | ⟨-, -, -, heq⟩ := pollOnce_cases (s.setFsm phase)
    · exact .inr (.inr (.inr (heq ▸ rfl)))
    · exact .inl (heq ▸ rfl)
    · exact .inr (.inr (.inr (heq ▸ rfl)))
    · exact .inl (heq ▸ rfl)
  | _ => exact .inl (exec_keeps_failPhase h hconfigure nofun nofun nofun)

theorem romProgram_poll {p : Params} {k : Nat} (hk : k < 16) {phase : Fsm} (h : (romProgram p)[k] = .poll phase) :
    k = 11 ∧ phase = .awaitingCompletion := by
  interval_cases k <;> cases h
  exact ⟨rfl, rfl⟩

/-- FAIL_PHASE comes to name Streaming at address 8 alone. -/
theorem upc_of_streaming_failure {s t : State} (hexec : exec (romProgram s.params)[s.upc.toNat] s = .next t)
    (hbefore : s.failPhase ≠ .streaming) (hfail : t.failPhase = .streaming) : s.upc.toNat = 8 := by
  have hcases := exec_failPhase_cases hexec (romProgram_ne_configure s.params s.upc.isLt)
  rw [hfail] at hcases
  obtain hkept | ⟨fill, count, hxferc⟩ | hxferi | hpoll := hcases
  · exact absurd hkept.symm hbefore
  · obtain ⟨-, hphase, -⟩ | ⟨-, hphase, -⟩ := romProgram_xferc s.upc.isLt hxferc
    all_goals cases hphase
  · obtain ⟨hupc, -⟩ := romProgram_xferi s.upc.isLt hxferi
    exact hupc
  · obtain ⟨-, hphase⟩ := romProgram_poll s.upc.isLt hpoll
    cases hphase

/-! ### A session that has failed on a chunk (42_framer R146, 60_exceptions R203) -/

/-- The events that follow a failed exchange, by how far the failure path has come (60_exceptions R203). -/
inductive FailurePath (u : State) : List Event → Prop
  | entered (hrun : u.run = true) (hupc : u.upc.toNat = 13) : FailurePath u []
  | released (hrun : u.run = true) (hupc : u.upc.toNat = 14) : FailurePath u [.setPin .csN true]
  | ended (hrun : u.run = false) : FailurePath u [.setPin .csN true, .finish .transportFailure]

/-- The session that began in `s` has sent the chunks before OFFSET and failed on the one there; `after` is what it has
emitted since. -/
def FailedOnChunk (s u : State) (after : List Event) : Prop :=
  ∃ chunks, ChunksSent s chunks u.offset.toNat ∧ u.offset.toNat < s.frameLen.toNat ∧
    Emitted s u (streamedEvents s.params chunks ++ [.xfer (chunkAt s u.offset.toNat) false] ++ after)

theorem FailedOnChunk.append {s u t : State} {after more : List Event} (h : FailedOnChunk s u after)
    (hoffset : t.offset = u.offset) (htrace : t.trace = u.trace ++ more) : FailedOnChunk s t (after ++ more) := by
  obtain ⟨chunks, hchunks, hbefore, hemitted⟩ := h
  refine ⟨chunks, hoffset ▸ hchunks, hoffset ▸ hbefore, ?_⟩
  rw [hoffset, ← List.append_assoc]
  exact hemitted.append htrace

/-- What FAIL_PHASE = Streaming says in `u` of the session that began in `s`. -/
def StreamingFailureSoFar (s u : State) : Prop :=
  u.failPhase = .streaming → ∃ after, FailurePath u after ∧ FailedOnChunk s u after

theorem StreamingFailureSoFar.begin {s : State} (hinv : Inv s) (h : SessionBegins s) : StreamingFailureSoFar s s := by
  obtain ⟨hrun, hupc, -⟩ := h
  obtain ⟨-, -, -, -, hfail⟩ := (hinv.running hrun).place.at_upc hupc
  have hfail : s.failPhase = .idle := hfail
  intro hstreaming
  cases hfail.symm.trans hstreaming

theorem LeftToItself.exec_at {u t : State} {k : Nat} (h : LeftToItself u) (hrun : u.run = true)
    (hupc : u.upc.toNat = k) (hk : k < 16) (hstep : step u = .next t) :
    exec (romProgram u.params)[k] u = .next t := by
  subst hupc
  exact (h.step_rom hrun).symm.trans hstep

/-- The exchange at address 8 that fails. -/
theorem SessionSoFar.failedOnChunk {s u t : State} (h : SessionSoFar s u) (hinv : Inv u) (hrun : u.run = true)
    (hupc : u.upc.toNat = 8) (hexec : exec (.xferi .streaming) u = .next t) (hfail : t.failPhase = .streaming) :
    FailurePath t [] ∧ FailedOnChunk s t [] := by
  have hat : u.upc = 8#4 := BitVec.eq_of_toNat_eq hupc
  obtain ⟨-, -, hidle, -, hbefore⟩ := (hinv.running hrun).place.at_upc hat
  have hidle : u.failPhase = .idle := hidle
  have hbefore : u.offset.toNat < u.frameLen.toNat := hbefore
  obtain ⟨chunks, hchunks, hemitted⟩ := h.forward_at hrun (k := 8) hat (by decide)
  have hbytes : (u.setFsm .streaming).chunkBytes = chunkAt s u.offset.toNat :=
    (chunkBytes_eq_chunkAt hbefore.le).trans (h.kept.chunkAt_eq _)
  obtain rfl := Host.Outcome.next.inj hexec
  obtain ⟨-, -, heq⟩ | ⟨-, -, heq⟩ | ⟨-, heq⟩ := sendChunk_cases (u.setFsm .streaming)
  · rw [heq] at hfail
    cases hidle.symm.trans hfail
  · rw [heq] at hfail
    cases hidle.symm.trans hfail
  · rw [heq, hbytes]
    refine ⟨.entered hrun rfl, chunks, hchunks, h.kept.frameLen ▸ hbefore, ?_⟩
    rw [List.append_nil]
    exact hemitted.append rfl

/-- The failure path goes on: address 13 releases CS_N, address 14 ends the session, and then the block is idle. -/
theorem FailurePath.step {s u t : State} {after : List Event} (hpath : FailurePath u after) (hleft : LeftToItself u)
    (hfailed : FailedOnChunk s u after) (hstep : step u = .next t) :
    ∃ after', FailurePath t after' ∧ FailedOnChunk s t after' := by
  cases hpath with
  | entered hrun hupc =>
    have hpasses := exec_setpin_passes (hleft.exec_at hrun hupc (by decide) hstep)
    have hnext : t.upc.toNat = 14 := by
      rw [hpasses.upc, BitVec.toNat_add, hupc]
      rfl
    exact ⟨_, .released (hpasses.run.trans hrun) hnext, hfailed.append hpasses.offset hpasses.trace⟩
  | released hrun hupc =>
    obtain rfl := Host.Outcome.next.inj (hleft.exec_at hrun hupc (by decide) hstep)
    exact ⟨_, .ended rfl, hfailed.append rfl rfl⟩
  | ended hrun =>
    rw [step_of_no_inputs hleft.inputs, blockTurn_of_idle hrun] at hstep
    obtain rfl := Host.Outcome.next.inj hstep
    exact ⟨_, .ended hrun, hfailed⟩

theorem StreamingFailureSoFar.step {s u t : State} (h : StreamingFailureSoFar s u) (hleft : LeftToItself u)
    (hsofar : SessionSoFar s u) (hstep : step u = .next t) : StreamingFailureSoFar s t := by
  intro hfail
  by_cases hbefore : u.failPhase = .streaming
  · obtain ⟨after, hpath, hfailed⟩ := h hbefore
    exact hpath.step hleft hfailed hstep
  · obtain ⟨-, rfl⟩ | ⟨hrun, -⟩ := blockTurn_next_cases ((step_of_no_inputs hleft.inputs).symm.trans hstep)
    · exact absurd hfail hbefore
    · have hupc := upc_of_streaming_failure ((hleft.step_rom hrun).symm.trans hstep) hbefore hfail
      exact ⟨[], hsofar.failedOnChunk hleft.inv hrun hupc (hleft.exec_at hrun hupc (by decide) hstep) hfail⟩

theorem StreamingFailureSoFar.of_runsTo {n : Nat} {s t : State} (hinv : Inv s) (hbegins : SessionBegins s)
    (hruns : RunsTo n s t) : StreamingFailureSoFar s t := by
  have ⟨_, _, hfailure⟩ := hruns.preserves
    (P := fun u => LeftToItself u ∧ SessionSoFar s u ∧ StreamingFailureSoFar s u)
    (fun u v ⟨hleft, hsofar, hfailure⟩ hstep =>
      ⟨hleft.next hstep, hsofar.step hleft.inv hleft.inputs hstep, hfailure.step hleft hsofar hstep⟩)
    ⟨.of_begins hinv hbegins, .begin hinv hbegins, .begin hinv hbegins⟩
  exact hfailure

/-- Settles O49: the failure path has been followed to its end. -/
theorem failedChunkEndsTheSession : Obligations.FailedChunkEndsTheSession := by
  unfold Obligations.FailedChunkEndsTheSession
  intro s t n hinv hbegins hruns hstopped _ hfail
  obtain ⟨after, hpath, chunks, hchunks, hbefore, hemitted⟩ :=
    StreamingFailureSoFar.of_runsTo hinv hbegins hruns hfail
  refine ⟨chunks, chunkAt s t.offset.toNat, ?_, hchunks.sizes_eq hbefore, hchunks.offset_eq_mul hbefore,
    hchunks.busBytes_append_chunkAt hbefore⟩
  cases hpath with
  | entered hrun => cases hstopped.symm.trans hrun
  | released hrun => cases hstopped.symm.trans hrun
  | ended => rwa [List.append_assoc] at hemitted

end Sys2Proof.Machine
end

section
/-! PROOFS. The poller family, POLL: its effect by what POLLS and the sampled level say (43_poller R160). -/

namespace Sys2Proof.Machine

/-! ### POLL by its case (43_poller R160) -/

theorem pollOnce_of_used {s : State} (hused : s.pollBudget.toNat ≤ s.polls.toNat) :
    pollOnce s = failTimeout s := by
  obtain ⟨-, heq⟩ | ⟨hleft, -⟩ | ⟨hleft, -⟩ | ⟨hleft, -⟩ := pollOnce_cases s
  · exact heq
  all_goals omega

theorem pollOnce_of_active {s : State} (hleft : s.polls.toNat < s.pollBudget.toNat)
    (hactive : s.doneSample = s.params.doneActive) : pollOnce s = (takeSample s).advance := by
  obtain ⟨hused, -⟩ | ⟨-, -, heq⟩ | ⟨-, hinactive, -⟩ | ⟨-, hinactive, -⟩ := pollOnce_cases s
  · omega
  · exact heq
  all_goals exact absurd hactive hinactive

theorem pollOnce_of_last {s : State} (hinactive : s.doneSample ≠ s.params.doneActive)
    (hlast : s.polls.toNat + 1 = s.pollBudget.toNat) : pollOnce s = failTimeout (takeSample s) := by
  have hcounted := polls_add_one_toNat (s := s) (by omega)
  obtain ⟨hused, -⟩ | ⟨-, hactive, -⟩ | ⟨-, -, -, heq⟩ | ⟨-, -, hmore, -⟩ := pollOnce_cases s
  · omega
  · exact absurd hactive hinactive
  · exact heq
  · exact absurd (BitVec.eq_of_toNat_eq (hcounted.trans hlast)) hmore

theorem pollOnce_of_inactive {s : State} (hinactive : s.doneSample ≠ s.params.doneActive)
    (hmore : s.polls.toNat + 1 < s.pollBudget.toNat) :
    pollOnce s = (takeSample s).emit (.wait s.params.pollIntervalUs) := by
  have hcounted := polls_add_one_toNat (s := s) (by omega)
  obtain ⟨hused, -⟩ | ⟨-, hactive, -⟩ | ⟨-, -, hlast, -⟩ | ⟨-, -, -, heq⟩ := pollOnce_cases s
  · omega
  · exact absurd hactive hinactive
  · rw [hlast] at hcounted
    omega
  · exact heq

/-- Settles O14: POLL writes its phase and then polls once, in the state's case. -/
theorem pollCompletesWithItsEffect : Obligations.PollCompletesWithItsEffect := by
  unfold Obligations.PollCompletesWithItsEffect
  intro phase s
  have hexec : exec (.poll phase) s = .next (pollOnce (s.setFsm phase)) := rfl
  have hcount : BitVec.ofNat 16 (s.polls.toNat + 1) = s.polls + 1#16 := by
    rw [BitVec.ofNat_add, BitVec.ofNat_toNat, BitVec.setWidth_eq]
  rw [hexec, hcount]
  refine ⟨fun hused => ?_, fun hleft hactive => ?_, fun hinactive hlast => ?_, fun hinactive hmore => ?_⟩
  · rw [pollOnce_of_used (s := s.setFsm phase) hused]
    rfl
  · rw [pollOnce_of_active (s := s.setFsm phase) hleft hactive]
    rfl
  · rw [pollOnce_of_last (s := s.setFsm phase) hinactive hlast]
    rfl
  · rw [pollOnce_of_inactive (s := s.setFsm phase) hinactive hmore, List.append_cons s.trace]
    rfl

end Sys2Proof.Machine
end

section
/-! PROOFS. The poller family, the end of a session: the words of the fixed ROM that end one (41_sequencer R120), and the
report that each of them leaves (43_poller R166, R168). -/

namespace Sys2Proof.Machine

theorem romProgram_endOp {p : Params} {k : Nat} (hk : k < 16) {phase : Fsm} {code : SessionOutcome}
    (h : (romProgram p)[k] = .endOp phase code) :
    (k = 12 ∧ phase = .done ∧ code = .done) ∨ (k = 14 ∧ phase = .failed ∧ code = .transportFailure) ∨
      (k = 15 ∧ phase = .failed ∧ code = .completionTimeout) := by
  interval_cases k <;> cases h
  · exact .inl ⟨rfl, rfl, rfl⟩
  · exact .inr (.inl ⟨rfl, rfl, rfl⟩)
  · exact .inr (.inr ⟨rfl, rfl, rfl⟩)

/-- A step that stops a running session is one of the three ENDs, and does what END does (43_poller R166). -/
theorem ending_step_cases {s t : State} (hinv : Inv s) (hrun : s.run = true) (hreset : ¬ ResetPending s)
    (hstep : step s = .next t) (hstopped : t.run = false) :
    ∃ phase code,
      ((s.upc = 12#4 ∧ phase = .done ∧ code = .done) ∨
        (s.upc = 14#4 ∧ phase = .failed ∧ code = .transportFailure) ∨
        (s.upc = 15#4 ∧ phase = .failed ∧ code = .completionTimeout)) ∧
      t = { s.popInput with
        fsm := phase, outcome := code, outcomeValid := true, run := false, trace := s.trace ++ [.finish code] } := by
  obtain ⟨hturn, phase, code, hdecode⟩ := onlyEndStopsARunningSession s t hrun hreset hstep hstopped
  have hexec := (stepRunsTheMicroWordAtUpc s _ hrun hturn hdecode).symm.trans hstep
  have hinstr : (romProgram s.params)[s.upc.toNat] = .endOp phase code := by
    simp only [State.fetch, hinv.rom, decodeMicro_romOf] at hdecode
    exact Except.ok.inj hdecode
  refine ⟨phase, code, ?_, (Host.Outcome.next.inj hexec).symm⟩
  obtain ⟨hupc, hcode⟩ | ⟨hupc, hcode⟩ | ⟨hupc, hcode⟩ := romProgram_endOp s.upc.isLt hinstr
  · exact .inl ⟨BitVec.eq_of_toNat_eq hupc, hcode⟩
  · exact .inr (.inl ⟨BitVec.eq_of_toNat_eq hupc, hcode⟩)
  · exact .inr (.inr ⟨BitVec.eq_of_toNat_eq hupc, hcode⟩)

/-- Settles O45: what the invariant says at the END's address, with what END writes. -/
theorem endedSessionsReportAsListed : Obligations.EndedSessionsReportAsListed := by
  unfold Obligations.EndedSessionsReportAsListed
  intro s t hinv hrun hreset hstep hstopped
  have hplace := (hinv.running hrun).place
  obtain ⟨phase, code, hend, rfl⟩ := ending_step_cases hinv hrun hreset hstep hstopped
  obtain ⟨hupc, rfl, rfl⟩ | ⟨hupc, rfl, rfl⟩ | ⟨hupc, rfl, rfl⟩ := hend
  · obtain ⟨⟨hcs, hrst⟩, -, ⟨hall, hfail⟩, -⟩ := hplace.at_upc hupc
    exact ⟨hcs, hrst, rfl, .inl rfl, fun _ => ⟨rfl, hfail, hall⟩, fun hother => absurd rfl hother, nofun, nofun⟩
  · obtain ⟨⟨hcs, hrst⟩, -, hexchange, -⟩ := hplace.at_upc hupc
    exact ⟨hcs, hrst, rfl, .inr (.inl rfl), nofun, fun _ => rfl, fun _ => hexchange, nofun⟩
  · obtain ⟨⟨hcs, hrst⟩, -, hfail, hall, hpolls⟩ := hplace.at_upc hupc
    exact ⟨hcs, hrst, rfl, .inr (.inr rfl), nofun, fun _ => rfl, nofun, fun _ => ⟨hfail, hall, hpolls⟩⟩

end Sys2Proof.Machine
end

section
/-! PROOFS. The poller family, the report at rest: with RUN = 0 and a report held, a host access but CONFIGURE changes only
what the host may write (43_poller R168, 10_state R23). -/

namespace Sys2Proof.Machine

/-- The two states differ at most in what the host writes or reads while the block rests. -/
def BlockUntouched (s t : State) : Prop :=
  t = { s with
    inputs := t.inputs, lenIn := t.lenIn, pollBudget := t.pollBudget, img := t.img, hostReads := t.hostReads }

/-- A block that holds a report has been brought up (10_state R44 (d)). -/
theorem life_ne_unbound_of_report {s : State} (hinv : Inv s) (hvalid : s.outcomeValid = true) : s.life ≠ .unbound := by
  intro hlife
  obtain ⟨-, -, -, hnone⟩ := hinv.bringUp.at_life hlife
  exact absurd (hnone.symm.trans hvalid) Bool.false_ne_true

/-- Of the writes CONFIGURE alone reaches the report: an INIT after bring-up does nothing (40_host_commands R103). -/
theorem blockUntouched_of_hostWrite {width : Width} {address : BitVec 17} {value : Word} {s t : State}
    (hlife : s.life ≠ .unbound)
    (hnoConfigure : ¬ (width = .w32 ∧ address = 0#17 ∧ value = encode .configure))
    (hwrite : hostWrite width address value s = .next t) : BlockUntouched s t := by
  obtain rfl | ⟨-, hstore⟩ := hostWrite_next_cases hwrite
  · rfl
  · obtain ⟨-, -, rfl⟩ | ⟨-, -, rfl⟩ | ⟨-, -, rfl⟩ | ⟨hwidth, haddress, i, hcommand, hexec⟩ := hstore
    · rfl
    · rfl
    · rfl
    · obtain ⟨-, rfl⟩ | ⟨hvalue, -⟩ := decodeCommand_ok_cases hcommand
      · obtain rfl := Host.Outcome.next.inj ((exec_init_of_bound hlife).symm.trans hexec)
        rfl
      · exact absurd ⟨hwidth, haddress, hvalue⟩ hnoConfigure

/-- Settles O56: a host access, or a turn of the idle block. -/
theorem reportStaysUntilTheNextConfigure : Obligations.ReportStaysUntilTheNextConfigure := by
  unfold Obligations.ReportStaysUntilTheNextConfigure
  intro s t hinv hrun hvalid hreset hnoConfigure hstep
  have hlife := life_ne_unbound_of_report hinv hvalid
  obtain ⟨access, rest, hinputs, haccess⟩ | ⟨rest, hinputs, -⟩ | ⟨hturn, -⟩ := step_next_cases hstep
  · obtain ⟨width, address, -, rfl⟩ | ⟨width, address, value, rfl, hwrite⟩ := hostAccess_next_cases haccess
    · rfl
    · have huntouched : BlockUntouched s.popInput t := by
        refine blockUntouched_of_hostWrite hlife ?_ hwrite
        rintro ⟨rfl, rfl, rfl⟩
        exact hnoConfigure rest hinputs
      exact huntouched
  · exact absurd ⟨rest, hinputs⟩ hreset
  · obtain rfl := Host.Outcome.next.inj ((idleBlockKeepsItsState s hrun hturn).symm.trans hstep)
    rfl

end Sys2Proof.Machine
end

section
/-! PROOFS. The poller family, the steps at address 11: with no budget POLL leads to the END of a timeout (43_poller R161),
and a POLL that is followed by another one has taken an inactive sample and waited (R160, R164). -/

namespace Sys2Proof.Machine

/-- A turn at address 11 polls. -/
theorem LeftToItself.poll {s t : State} (h : LeftToItself s) (hrun : s.run = true) (hupc : s.upc = 11#4)
    (hstep : step s = .next t) : t = pollOnce (s.setFsm .awaitingCompletion) :=
  (Host.Outcome.next.inj (h.exec_at hrun (congrArg BitVec.toNat hupc) (by decide) hstep)).symm

/-- Settles O51: the POLL without a sample, then the END of address 15. -/
theorem zeroBudgetTimesOutUnsampled : Obligations.ZeroBudgetTimesOutUnsampled := by
  unfold Obligations.ZeroBudgetTimesOutUnsampled
  intro s hinv hrun hinputs hupc hbudget
  have hleft : LeftToItself s := ⟨hinv, hinputs⟩
  have hwithin := (hinv.running hrun).polls
  rw [hbudget] at hwithin
  have hpolls : s.polls = 0#16 := BitVec.eq_of_toNat_eq (Nat.le_zero.mp hwithin)
  obtain ⟨t, u, hu, v, hv, rfl⟩ := hleft.exists_runsTo 2
  have hpoll : u = { s with fsm := .awaitingCompletion, failPhase := .awaitingCompletion, upc := 15#4 } :=
    (hleft.poll hrun hupc hu).trans (pollOnce_of_used (s := s.setFsm .awaitingCompletion) (by simp [hbudget]))
  have hleft' := hleft.next hu
  subst hpoll
  obtain rfl := Host.Outcome.next.inj (hleft'.exec_at (k := 15) hrun rfl (by decide) hv)
  exact ⟨_, ⟨_, hu, _, hv, rfl⟩, rfl, rfl, hpolls, rfl, rfl, rfl⟩

@[simp] theorem pollOnce_run (s : State) : (pollOnce s).run = s.run := by
  obtain ⟨-, heq⟩ | ⟨-, -, heq⟩ | ⟨-, -, -, heq⟩ | ⟨-, -, -, heq⟩ := pollOnce_cases s
  all_goals rw [heq]

/-- Before the budget is used up POLL begins with a sample. -/
theorem pollOnce_trace_of_left {s : State} (hleft : s.polls.toNat < s.pollBudget.toNat) :
    ∃ more, (pollOnce s).trace = s.trace ++ .sample s.doneSample :: more := by
  obtain ⟨hused, -⟩ | ⟨-, -, heq⟩ | ⟨-, -, -, heq⟩ | ⟨-, -, -, heq⟩ := pollOnce_cases s
  · omega
  · exact ⟨[], heq ▸ rfl⟩
  · exact ⟨[], heq ▸ rfl⟩
  · exact ⟨[.wait s.params.pollIntervalUs], heq ▸ List.append_assoc ..⟩

/-- A POLL that stays at address 11 has waited after an inactive sample, and a sample is left. -/
theorem pollOnce_again {s : State} (hupc : s.upc = 11#4) (hagain : (pollOnce s).upc = 11#4) :
    (pollOnce s).polls.toNat < s.pollBudget.toNat ∧
      (pollOnce s).trace = s.trace ++ [.sample (!s.params.doneActive), .wait s.params.pollIntervalUs] := by
  obtain ⟨-, heq⟩ | ⟨-, -, heq⟩ | ⟨-, -, -, heq⟩ | ⟨hleft, hinactive, hmore, heq⟩ := pollOnce_cases s
  · simp [heq] at hagain
  · simp [heq, hupc] at hagain
  · simp [heq] at hagain
  · rw [heq, ← Bool.eq_not_of_ne hinactive]
    have hcounted := polls_add_one_toNat hleft
    have hbefore : (s.polls + 1#16).toNat ≠ s.pollBudget.toNat := mt BitVec.eq_of_toNat_eq hmore
    exact ⟨by simp only; omega, List.append_assoc ..⟩

/-- Settles O57: the events of the two POLLs begin with a sample, the wait and a sample. -/
theorem pollIntervalIsKeptBetweenSamples : Obligations.PollIntervalIsKeptBetweenSamples := by
  unfold Obligations.PollIntervalIsKeptBetweenSamples
  intro s u t timed tick events hinv hrun hinputs hupc hu hupc' ht hemitted hevents htiming
  have hleft : LeftToItself s := ⟨hinv, hinputs⟩
  have hpoll := hleft.poll hrun hupc hu
  have hkept : HostSideKept (s.setFsm .awaitingCompletion) u := hpoll ▸ pollOnce_keeps_hostSide _
  obtain ⟨hcount, htrace⟩ := pollOnce_again (s := s.setFsm .awaitingCompletion) hupc (hpoll ▸ hupc')
  rw [← hpoll] at hcount htrace
  have hrun' : u.run = true := by rw [hpoll, pollOnce_run, State.setFsm_run, hrun]
  have hpoll' := (hleft.next hu).poll hrun' hupc' ht
  obtain ⟨more, htrace'⟩ := pollOnce_trace_of_left (s := u.setFsm .awaitingCompletion) (hkept.pollBudget ▸ hcount)
  rw [← hpoll'] at htrace'
  rw [hemitted.unique (.append htrace htrace')] at hevents
  simp only [List.cons_append, List.nil_append, List.map_eq_cons_iff] at hevents
  obtain ⟨first, _, rfl, hfirst, wait, _, rfl, hwait, second, rest, rfl, hsecond, -⟩ := hevents
  have hhold := htiming.hold
  rw [hwait] at hhold
  exact ⟨first, wait, second, rest, _, rfl, hfirst, hwait, hsecond, hhold⟩

end Sys2Proof.Machine
end

section
/-! PROOFS. The poller family, the polling of a session: POLL alone samples and waits, and each POLL goes on with what the
ones before it have emitted (43_poller R160 to R165); so the last step of a session, its END, finds the whole polling in the
trace. -/

namespace Sys2Proof.Machine

/-! ### Words that do not poll -/

/-- Among the events there is no sample and no wait. -/
def NoPolling (events : List Event) : Prop :=
  sampleLevels events = [] ∧ waitCount events = 0

theorem NoPolling.append {a b : List Event} (ha : NoPolling a) (hb : NoPolling b) : NoPolling (a ++ b) := by
  obtain ⟨hasamples, hawaits⟩ := ha
  obtain ⟨hbsamples, hbwaits⟩ := hb
  exact ⟨by simp [hasamples, hbsamples], by simp [hawaits, hbwaits]⟩

/-- The step has emitted one event that is no sample and no wait, and has stayed at its address, gone to the next one or
entered the failure path. -/
structure DoesNotPoll (s t : State) : Prop where
  upc : t.upc = s.upc ∨ t.upc = s.upc + 1#4 ∨ t.upc = 13#4
  trace : ∃ e, NoPolling [e] ∧ t.trace = s.trace ++ [e]

theorem Passes.doesNotPoll {s t : State} {e : Event} (h : Passes s t e) (he : NoPolling [e]) : DoesNotPoll s t :=
  ⟨.inr (.inl h.upc), e, he, h.trace⟩

theorem exec_doesNotPoll {i : Instr} {s t : State} (h : exec i s = .next t) (hinit : i ≠ .init)
    (hconfigure : i ≠ .configure) (hpoll : ∀ phase, i ≠ .poll phase) : DoesNotPoll s t := by
  cases i with
  | init => exact absurd rfl hinit
  | configure => exact absurd rfl hconfigure
  | setpin phase pin level => exact (exec_setpin_passes h).doesNotPoll ⟨rfl, rfl⟩
  | delay phase d => exact (exec_delay_passes h).doesNotPoll ⟨rfl, rfl⟩
  | xferc phase fill count =>
    obtain rfl := exec_xferc_next h
    obtain ⟨-, heq⟩ | ⟨-, heq⟩ := sendFill_cases fill count (s.setFsm phase)
    · exact heq ▸ ⟨.inr (.inl rfl), _, ⟨rfl, rfl⟩, rfl⟩
    · exact heq ▸ ⟨.inr (.inr rfl), _, ⟨rfl, rfl⟩, rfl⟩
  | xferi phase =>
    obtain rfl := Host.Outcome.next.inj h
    obtain ⟨-, -, heq⟩ | ⟨-, -, heq⟩ | ⟨-, heq⟩ := sendChunk_cases (s.setFsm phase)
    · exact heq ▸ ⟨.inr (.inl rfl), _, ⟨rfl, rfl⟩, rfl⟩
    · exact heq ▸ ⟨.inl rfl, _, ⟨rfl, rfl⟩, rfl⟩
    · exact heq ▸ ⟨.inr (.inr rfl), _, ⟨rfl, rfl⟩, rfl⟩
  | poll phase => exact absurd rfl (hpoll phase)
  | endOp phase code =>
    obtain rfl := Host.Outcome.next.inj h
    exact ⟨.inl rfl, _, ⟨rfl, rfl⟩, rfl⟩

/-! ### The polling so far -/

/-- The polling of a timeout: POLL_BUDGET inactive samples (43_poller R160, R161). -/
def exhaustedPolls (p : Params) (budget : BitVec 16) : List Event :=
  if budget = 0#16 then [] else pollEvents p (budget.toNat - 1) (!p.doneActive)

/-- The samples and waits a session has made before the word at UPC runs (43_poller R160). -/
def polledEvents (s : State) : List Event :=
  match s.upc.toNat with
  | 11 => missedPolls s.params s.polls.toNat
  | 12 => pollEvents s.params (s.polls.toNat - 1) s.params.doneActive
  | 15 => exhaustedPolls s.params s.pollBudget
  | _ => []

theorem polledEvents_at_poll {s : State} (hupc : s.upc = 11#4) :
    polledEvents s = missedPolls s.params s.polls.toNat := by
  simp [polledEvents, hupc]

theorem polledEvents_at_done {s : State} (hupc : s.upc = 12#4) :
    polledEvents s = pollEvents s.params (s.polls.toNat - 1) s.params.doneActive := by
  simp [polledEvents, hupc]

theorem polledEvents_at_timeout {s : State} (hupc : s.upc = 15#4) :
    polledEvents s = exhaustedPolls s.params s.pollBudget := by
  simp [polledEvents, hupc]

/-- Nothing was polled before the first POLL and on the failure path of an exchange. -/
theorem polledEvents_eq_nil {s : State} (hpoll : s.upc = 11#4 → s.polls = 0#16) (hdone : s.upc ≠ 12#4)
    (htimeout : s.upc ≠ 15#4) : polledEvents s = [] := by
  unfold polledEvents
  split
  · next hupc =>
    rw [hpoll (BitVec.eq_of_toNat_eq hupc)]
    rfl
  · next hupc => exact absurd (BitVec.eq_of_toNat_eq hupc) hdone
  · next hupc => exact absurd (BitVec.eq_of_toNat_eq hupc) htimeout
  · rfl

theorem exhaustedPolls_eq (p : Params) {budget : BitVec 16} {n : Nat} (hbudget : budget.toNat = n + 1) :
    exhaustedPolls p budget = missedPolls p n ++ [.sample (!p.doneActive)] := by
  have hpositive : budget ≠ 0#16 := by
    rintro rfl
    cases hbudget
  rw [exhaustedPolls, if_neg hpositive, missedPolls_append_sample, hbudget, Nat.add_sub_cancel]

theorem sampleLevels_exhaustedPolls_length (p : Params) (budget : BitVec 16) :
    (sampleLevels (exhaustedPolls p budget)).length = budget.toNat := by
  unfold exhaustedPolls
  split
  · next hzero =>
    rw [hzero]
    rfl
  · next hpositive =>
    have hpositive : budget.toNat ≠ 0 := fun h => hpositive (BitVec.eq_of_toNat_eq h)
    simp only [sampleLevels_pollEvents, List.length_append, List.length_replicate, List.length_singleton]
    omega

/-- POLL goes on with the polling so far, whatever its case (43_poller R160). -/
theorem pollOnce_continues {s : State} (hupc : s.upc = 11#4)
    (hbegun : s.polls = 0#16 ∨ s.polls.toNat < s.pollBudget.toNat) :
    ∃ more, (pollOnce s).trace = s.trace ++ more ∧ polledEvents (pollOnce s) = polledEvents s ++ more := by
  rw [polledEvents_at_poll hupc]
  obtain ⟨hused, heq⟩ | ⟨hleft, hactive, heq⟩ | ⟨hleft, hinactive, hlast, heq⟩ | ⟨hleft, hinactive, -, heq⟩ :=
    pollOnce_cases s
  · have hpolls : s.polls = 0#16 := hbegun.resolve_right (Nat.not_lt.mpr hused)
    rw [hpolls] at hused
    have hbudget : s.pollBudget = 0#16 := BitVec.eq_of_toNat_eq (Nat.le_zero.mp hused)
    rw [heq, polledEvents_at_timeout rfl, hpolls]
    exact ⟨[], (List.append_nil _).symm, by rw [hbudget]; rfl⟩
  · rw [heq, polledEvents_at_done (by simp [hupc]), hactive]
    refine ⟨_, rfl, ?_⟩
    simp only [polls_add_one_toNat hleft, Nat.add_sub_cancel, missedPolls_append_sample]
  · rw [heq, polledEvents_at_timeout rfl, Bool.eq_not_of_ne hinactive]
    refine ⟨_, rfl, exhaustedPolls_eq _ ?_⟩
    exact hlast ▸ polls_add_one_toNat hleft
  · rw [heq, polledEvents_at_poll (by exact hupc), Bool.eq_not_of_ne hinactive]
    refine ⟨_, List.append_assoc .., ?_⟩
    simp only [polls_add_one_toNat hleft]
    exact missedPolls_succ ..

/-- What is known of the polling in `u` of the session that began in `s`. -/
structure PolledSoFar (s u : State) : Prop where
  kept : HostSideKept s u
  emitted : u.run = true → ∃ before, NoPolling before ∧ Emitted s u (before ++ polledEvents u)

theorem PolledSoFar.begin {s : State} (h : SessionBegins s) : PolledSoFar s s := by
  obtain ⟨-, hupc, -⟩ := h
  refine ⟨.refl s, fun _ => ⟨[], ⟨rfl, rfl⟩, ?_⟩⟩
  simp [Emitted, polledEvents, hupc]

/-! ### Each step carries the polling on -/

section
variable {s t : State} (hleft : LeftToItself s) (hrun : s.run = true) (hstep : step s = .next t)
include hleft hrun hstep

/-- A session that goes on is not at an END. -/
theorem LeftToItself.upc_ne_of_running (hrun' : t.run = true) : s.upc ≠ 12#4 ∧ s.upc ≠ 14#4 ∧ s.upc ≠ 15#4 := by
  refine ⟨?_, ?_, ?_⟩
  all_goals
    intro hupc
    obtain rfl := Host.Outcome.next.inj (hleft.exec_at hrun (congrArg BitVec.toNat hupc) (by decide) hstep)
    cases hrun'

theorem LeftToItself.poll_continues (hupc : s.upc = 11#4) :
    ∃ more, t.trace = s.trace ++ more ∧ polledEvents t = polledEvents s ++ more := by
  obtain ⟨-, -, hbegun⟩ := (hleft.inv.running hrun).place.at_upc hupc
  rw [hleft.poll hrun hupc hstep]
  refine pollOnce_continues (s := s.setFsm .awaitingCompletion) hupc ?_
  obtain ⟨-, hfirst⟩ | ⟨-, hmore⟩ := hbegun
  · exact .inl hfirst
  · exact .inr hmore

/-- Away from address 11 a session that goes on does not poll, nor has it polled before. -/
theorem LeftToItself.no_polling (hrun' : t.run = true) (hupc : s.upc ≠ 11#4) :
    polledEvents s = [] ∧ polledEvents t = [] ∧ ∃ e, NoPolling [e] ∧ t.trace = s.trace ++ [e] := by
  obtain ⟨hdone, hfailed, htimeout⟩ := hleft.upc_ne_of_running hrun hstep hrun'
  have hexec := (hleft.step_rom hrun).symm.trans hstep
  have hpoll (phase : Fsm) : (romProgram s.params)[s.upc.toNat] ≠ .poll phase := fun hinstr =>
    have ⟨hat, _⟩ := romProgram_poll s.upc.isLt hinstr
    hupc (BitVec.eq_of_toNat_eq hat)
  obtain ⟨hinit, hconfigure⟩ := decodeMicro_ne_command (decodeMicro_romOf s.params _ s.upc.isLt)
  have hpolls := exec_keeps_polls hexec hconfigure hpoll
  obtain ⟨hnext, hemitted⟩ := exec_doesNotPoll hexec hinit hconfigure hpoll
  have hfirst : t.upc = 11#4 → t.polls = 0#16 := fun hat => by
    have hflush : s.upc = 10#4 := by bv_omega
    obtain ⟨-, -, -, hnone⟩ := (hleft.inv.running hrun).place.at_upc hflush
    exact hpolls.trans hnone
  exact ⟨polledEvents_eq_nil (fun hat => absurd hat hupc) hdone htimeout,
    polledEvents_eq_nil hfirst (by bv_omega) (by bv_omega), hemitted⟩

end

theorem PolledSoFar.step {s u t : State} (h : PolledSoFar s u) (hleft : LeftToItself u) (hstep : step u = .next t) :
    PolledSoFar s t := by
  obtain ⟨-, rfl⟩ | ⟨hrun, i, -, hexec⟩ := blockTurn_next_cases ((step_of_no_inputs hleft.inputs).symm.trans hstep)
  · exact h
  · refine ⟨h.kept.trans (exec_keeps_hostSide hexec), fun hrun' => ?_⟩
    obtain ⟨before, hbefore, hemitted⟩ := h.emitted hrun
    by_cases hupc : u.upc = 11#4
    · obtain ⟨more, htrace, hpolled⟩ := hleft.poll_continues hrun hstep hupc
      refine ⟨before, hbefore, ?_⟩
      rw [hpolled, ← List.append_assoc]
      exact hemitted.append htrace
    · obtain ⟨hnone, hnone', e, he, htrace⟩ := hleft.no_polling hrun hstep hrun' hupc
      refine ⟨before ++ [e], hbefore.append he, ?_⟩
      rw [hnone, List.append_nil] at hemitted
      rw [hnone', List.append_nil]
      exact hemitted.append htrace

theorem PolledSoFar.of_runsTo {n : Nat} {s t : State} (hinv : Inv s) (hbegins : SessionBegins s)
    (hruns : RunsTo n s t) : LeftToItself t ∧ PolledSoFar s t :=
  hruns.preserves (P := fun u => LeftToItself u ∧ PolledSoFar s u)
    (fun _ _ ⟨hleft, hpolled⟩ hstep => ⟨hleft.next hstep, hpolled.step hleft hstep⟩)
    ⟨.of_begins hinv hbegins, .begin hbegins⟩

/-! ### Whole sessions -/

theorem eq_of_runsTo_of_idle {n : Nat} {s t : State} (hinputs : s.inputs = []) (hrun : s.run = false)
    (hruns : RunsTo n s t) : t = s := by
  refine hruns.preserves (P := fun u => u = s) (fun u v hu hstep => ?_) rfl
  subst hu
  rw [step_of_no_inputs hinputs, blockTurn_of_idle hrun] at hstep
  exact (Host.Outcome.next.inj hstep).symm

/-- A session left to itself that has stopped did so in one step of its run, and has been idle since. -/
theorem LeftToItself.exists_ending_step {n : Nat} {s t : State} (h : LeftToItself s) (hrun : s.run = true)
    (hruns : RunsTo n s t) (hstopped : t.run = false) :
    ∃ m u, RunsTo m s u ∧ u.run = true ∧ step u = .next t := by
  induction n generalizing s with
  | zero =>
    obtain rfl : t = s := hruns
    exact absurd (hstopped.symm.trans hrun) Bool.false_ne_true
  | succ n ih =>
    obtain ⟨v, hv, hrest⟩ := hruns
    cases hrun' : v.run with
    | false =>
      obtain rfl := eq_of_runsTo_of_idle (h.next hv).inputs hrun' hrest
      exact ⟨0, s, rfl, hrun, hv⟩
    | true =>
      obtain ⟨m, u, hm, hu⟩ := ih (h.next hv) hrun' hrest
      exact ⟨m + 1, u, ⟨v, hv, hm⟩, hu⟩

/-- Settles O50: the polling so far at the END's address, for each of the three ENDs. -/
theorem pollingStopsAtTheFirstActiveSample : Obligations.PollingStopsAtTheFirstActiveSample := by
  unfold Obligations.PollingStopsAtTheFirstActiveSample
  intro s t n hinv hbegins hruns hstopped
  have ⟨hbegun, _, _⟩ := hbegins
  obtain ⟨m, u, hruns', hrun, hstep⟩ :=
    (LeftToItself.of_begins hinv hbegins).exists_ending_step hbegun hruns hstopped
  obtain ⟨hleft, hkept, hpolled⟩ := PolledSoFar.of_runsTo hinv hbegins hruns'
  obtain ⟨before, ⟨hsamples, hwaits⟩, hemitted⟩ := hpolled hrun
  obtain ⟨-, -, -, -, -, hwithin, hplace⟩ := hleft.inv.running hrun
  have hreset : ¬ ResetPending u := by
    rintro ⟨rest, hpending⟩
    cases hleft.inputs.symm.trans hpending
  obtain ⟨phase, code, hend, rfl⟩ := ending_step_cases hleft.inv hrun hreset hstep hstopped
  rw [hkept.pollBudget] at hwithin
  refine ⟨hwithin, before, polledEvents u, hemitted.append rfl, hsamples, hwaits, ?_⟩
  obtain ⟨hupc, rfl, rfl⟩ | ⟨hupc, rfl, rfl⟩ | ⟨hupc, rfl, rfl⟩ := hend
  · obtain ⟨-, -, -, hpolls⟩ := hplace.at_upc hupc
    have hpolls : 1 ≤ u.polls.toNat := hpolls
    have hcount : u.polls.toNat - 1 + 1 = u.polls.toNat := Nat.sub_add_cancel hpolls
    rw [polledEvents_at_done hupc, hkept.params]
    exact ⟨by simpa using hcount, fun _ => ⟨hpolls, rfl⟩, nofun, nofun⟩
  · obtain ⟨-, -, -, hpolls⟩ := hplace.at_upc hupc
    have hpolls : u.polls = 0#16 := hpolls
    rw [polledEvents_eq_nil (fun _ => hpolls) (by simp [hupc]) (by simp [hupc])]
    exact ⟨(congrArg BitVec.toNat hpolls).symm, nofun, nofun, fun _ => rfl⟩
  · obtain ⟨-, -, -, -, hpolls⟩ := hplace.at_upc hupc
    have hpolls : u.polls = u.pollBudget := hpolls
    rw [polledEvents_at_timeout hupc, hkept.params, hkept.pollBudget]
    rw [hkept.pollBudget] at hpolls
    exact ⟨hpolls ▸ sampleLevels_exhaustedPolls_length s.params _, nofun, fun _ => ⟨hpolls, rfl⟩, nofun⟩

end Sys2Proof.Machine
end

section
/-! PROOFS. The exceptions family, the failure path: address 13 releases CS_N in the state Failed, and address 14 ends the
session with TransportFailure (60_exceptions R203, R204). -/

namespace Sys2Proof.Machine

theorem LeftToItself.step_at {s : State} {k : Nat} (h : LeftToItself s) (hrun : s.run = true)
    (hupc : s.upc.toNat = k) (hk : k < 16) : step s = exec (romProgram s.params)[k] s := by
  subst hupc
  exact h.step_rom hrun

/-- The word at address 13: CS_N goes high whatever phase the exchange failed in. -/
theorem LeftToItself.step_release {s : State} (h : LeftToItself s) (hrun : s.run = true) (hupc : s.upc = 13#4) :
    step s = .next { s with
      fsm := .failed, csN := true, upc := 14#4, trace := s.trace ++ [.setPin .csN true] } := by
  obtain ⟨hsetpin, -⟩ := setpinCompletesWithItsEffect .failed true s
  rw [hupc] at hsetpin
  exact (h.step_at hrun (congrArg BitVec.toNat hupc) (by decide)).trans hsetpin

/-- The word at address 14: the session ends (43_poller R166). -/
theorem LeftToItself.step_report_failure {s : State} (h : LeftToItself s) (hrun : s.run = true) (hupc : s.upc = 14#4) :
    step s = .next { s with
      fsm := .failed, outcome := .transportFailure, outcomeValid := true, run := false,
      trace := s.trace ++ [.finish .transportFailure] } :=
  (h.step_at hrun (congrArg BitVec.toNat hupc) (by decide)).trans
    (endCompletesWithItsEffect .failed .transportFailure s)

/-- Settles O52: the two words of the failure path run one after the other. -/
theorem failurePathReleasesChipSelect : Obligations.FailurePathReleasesChipSelect := by
  unfold Obligations.FailurePathReleasesChipSelect
  intro s hinv hrun hinputs hupc
  have hleft : LeftToItself s := ⟨hinv, hinputs⟩
  have hrelease := hleft.step_release hrun hupc
  have hreport := (hleft.next hrelease).step_report_failure hrun rfl
  exact ⟨_, _, hrelease, rfl, rfl, hrun, hreport, rfl, rfl, rfl, rfl, rfl, List.append_assoc ..⟩

end Sys2Proof.Machine
end

section
/-! PROOFS. The exceptions family, the next session: an accepted CONFIGURE leaves nothing of an earlier session in the way
of the next one (60_exceptions R218, 70_reset_and_hazards R234). -/

namespace Sys2Proof.Machine

/-- A CONFIGURE of legal length, with nothing pending after it, begins a session and emits nothing. -/
theorem step_configure_begins {s : State} (hrun : s.run = false) (hlife : s.life = .ready)
    (hinputs : s.inputs = [.access (.write .w32 0#17 (encode .configure))])
    (hlow : 1 ≤ s.lenIn.toNat) (hhigh : s.lenIn.toNat ≤ 65535) :
    ∃ u, step s = .next u ∧ SessionBegins u ∧ u.frameLen.toNat = s.lenIn.toNat ∧ u.params = s.params ∧
      Emitted s u [] := by
  have hcommand := stepRunsTheCommandWritten s _ .configure [] hrun hinputs rfl
  obtain ⟨-, -, -, haccepted⟩ := configureCompletesWithItsEffect { s with inputs := [] }
  refine ⟨_, hcommand.trans (haccepted hlife hlow hhigh), ⟨rfl, rfl, rfl⟩, ?_, rfl, (List.append_nil _).symm⟩
  exact Nat.mod_eq_of_lt (Nat.lt_succ_of_le hhigh)

/-- Settles O55: the step of the CONFIGURE, then the six of the Resetting sequence. -/
theorem everySessionCanBeFollowedByAnother : Obligations.EverySessionCanBeFollowedByAnother := by
  unfold Obligations.EverySessionCanBeFollowedByAnother
  intro s hinv hrun hlife hinputs hlow hhigh
  obtain ⟨u, hu, hbegins, hlength, hparams, hsilent⟩ := step_configure_begins hrun hlife hinputs hlow hhigh
  have hinv' := everyStepKeepsTheInvariant s u hinv hu
  have hleft : LeftToItself u := .of_begins hinv' hbegins
  obtain ⟨t, hruns⟩ := hleft.exists_runsTo 6
  obtain ⟨hrun', -, hreset⟩ := resetting_sequence hinv' hbegins hruns
  have hleft' : LeftToItself t := hruns.preserves (P := LeftToItself) (fun _ _ => .next) hleft
  have hkept : FrameKept u t := (SessionSoFar.of_runsTo hinv' hbegins hruns).kept
  exact ⟨t, ⟨u, hu, hruns⟩, hrun', (hleft'.inv.running hrun').life, hkept.frameLen ▸ hlength,
    hparams ▸ hsilent.append hreset⟩

end Sys2Proof.Machine
end

section
/-! PROOFS. The family of the model's own choices: the canonical form of the image list through every step (log entry 1),
and the XFERC term that no word decodes to (30_encoding R78, log entry 20). -/

namespace Sys2Proof.Machine

/-! ### The canonical form of the image list -/

theorem exec_keeps_image_wf {i : Instr} {s t : State} (himage : Memory.wf s.img = true) (h : exec i s = .next t) :
    Memory.wf t.img = true :=
  (exec_keeps_hostSide h).img ▸ himage

theorem hostWrite_keeps_image_wf {width : Width} {address : BitVec 17} {value : Word} {s t : State}
    (himage : Memory.wf s.img = true) (h : hostWrite width address value s = .next t) : Memory.wf t.img = true := by
  obtain rfl | ⟨-, ⟨-, -, rfl⟩ | ⟨-, -, rfl⟩ | ⟨-, -, rfl⟩ | ⟨-, -, i, -, hexec⟩⟩ := hostWrite_next_cases h
  · exact himage
  · exact Memory.wf_write _ _ himage
  · exact himage
  · exact himage
  · exact exec_keeps_image_wf himage hexec

theorem hostAccess_keeps_image_wf {a : HostAccess} {s t : State} (himage : Memory.wf s.img = true)
    (h : hostAccess a s = .next t) : Memory.wf t.img = true := by
  obtain ⟨width, address, -, rfl⟩ | ⟨width, address, value, -, hwrite⟩ := hostAccess_next_cases h
  · exact himage
  · exact hostWrite_keeps_image_wf himage hwrite

theorem blockTurn_keeps_image_wf {s t : State} (himage : Memory.wf s.img = true) (h : blockTurn s = .next t) :
    Memory.wf t.img = true := by
  obtain ⟨-, rfl⟩ | ⟨-, i, -, hexec⟩ := blockTurn_next_cases h
  · exact himage
  · exact exec_keeps_image_wf himage hexec

/-- A block reset leaves no byte written (70_reset_and_hazards R230). -/
@[simp] theorem blockReset_img (s : State) : (blockReset s).img = [] := rfl

/-- Settles O40: only the host's byte write changes a listed byte, a block reset empties the list, and every other step
leaves it as it is. -/
theorem everyStepKeepsTheMemoryForm : Obligations.EveryStepKeepsTheMemoryForm := by
  unfold Obligations.EveryStepKeepsTheMemoryForm
  intro s t himage hstep
  obtain ⟨access, rest, -, haccess⟩ | ⟨rest, -, rfl⟩ | ⟨-, hturn⟩ := step_next_cases hstep
  · exact hostAccess_keeps_image_wf (s := s.popInput) himage haccess
  · rw [blockReset_img]
    exact Memory.wf_nil
  · exact blockTurn_keeps_image_wf (s := s.popInput) himage hturn

/-! ### XFERC without a legal word -/

/-- A COUNT of 0 makes XFERC stop before its exchange (30_encoding R78). -/
theorem execXferc_of_count_zero (phase : Fsm) (fill : Byte) (s : State) :
    execXferc phase fill 0#16 s = .fault (.illegalMicroOp s.upc (encode (.xferc phase fill 0#16))) :=
  if_pos rfl

/-- Settles O16: the operation's test on its count comes before the PHASE write and the exchange. -/
theorem xfercOfZeroBytesFaults : Obligations.XfercOfZeroBytesFaults := by
  unfold Obligations.XfercOfZeroBytesFaults
  intro phase fill s
  exact execXferc_of_count_zero phase fill s

end Sys2Proof.Machine
end
